-- ==== Sys2Proof/Word.lean ====
section
/-! DEFINITION. The plainest data of the part: the byte of the links, the numbers by which groups, stages,
channels, banks and plans are named, and sets of groups. The spec numbers groups, channels and outputs from 1;
here position i of such a `Fin` stands for number i + 1 (00_scope.md, Numbering). -/

namespace Sys2Proof

/-- One byte of a link frame (R181). -/
abbrev Byte := BitVec 8

/-- A signal group position; `0` stands for group 1 (00_scope.md: groups 1 to 24). -/
abbrev GroupId := Fin 24

/-- A stage number 0 to 16; 0 is the all-stop stage (R26). -/
abbrev StageId := Fin 17

/-- A detector channel; `0` stands for channel 1 (00_scope.md: channels 1 to 32). -/
abbrev ChanId := Fin 32

/-- A lamp output channel; `0` stands for channel 1 (00_scope.md: output channels 1 to 72). -/
abbrev OutId := Fin 72

/-- A detector bank; 0 to 3 stand for A to D (11_record_and_frame_formats.md, 11.3). -/
abbrev BankId := Fin 4

/-- A plan number 0 to 3. -/
abbrev PlanId := Fin 4

/-- A set of signal groups; bit i stands for group i + 1 (R195). -/
abbrev GroupSet := BitVec 24

/-- Whether a group set holds a group. -/
def inSet (g : GroupId) (m : GroupSet) : Bool := m.getLsbD g.val

/-- The 24 group positions in ascending order. -/
def groupIds : List GroupId := List.finRange 24

/-- The 32 detector channels in ascending order. -/
def chanIds : List ChanId := List.finRange 32

/-- The 72 output channels in ascending order. -/
def outIds : List OutId := List.finRange 72

/-- The stages 1 to 16 of the stage table in ascending order, by their place in the table. -/
def stageSlots : List (Fin 16) := List.finRange 16

end Sys2Proof
end

