-- ==== Sys2Proof/Syntax.lean ====
section
/-! DEFINITION. The commands of the block: one constructor of `Instr` for each row of spec/opcode_table.json.
A command of a request row carries the port that receives the request and the fields of its payload, as numbers
(11_record_and_frame_formats.md, 11.2 and 11.4), so that every value a frame can hold, out of range or not, is a command.
A command of an event row carries the number of the group, channel, bank or tram it happens to, as the spec numbers it. -/

namespace Sys2Proof

/-- The three link ports (R179). -/
inductive Port where
  /-- port L, the local strategy processor -/
  | l
  /-- port C, central traffic control -/
  | c
  /-- port T, the tram detection interface -/
  | t
  deriving DecidableEq, Repr

/-- The payload of a WRITE_GROUP request (11.4, group configuration). -/
structure GroupWrite where
  group : Nat
  kind : Nat
  clearTime : Nat
  prepareTime : Nat
  minStop : Nat
  redMonitored : Nat
  deriving DecidableEq, Repr

/-- The payload of a WRITE_JUNCTION request (11.4, junction); `seq` holds all 16 entry bytes of the frame. -/
structure JunctionWrite where
  startStage : Nat
  restStage : Nat
  priority : Vector Nat 24
  seqLength : Nat
  seq : Vector Nat 16
  permission : Nat
  localTime : Nat
  centralPeriod : Nat
  startupRed : Nat
  closingRed : Nat
  standbyPlan : Nat
  flasherRate : Nat
  deriving DecidableEq, Repr

/-- The payload of a WRITE_OUTPUT request (11.4, output channel); `arg` is the group or detector channel byte. -/
structure OutputWrite where
  channel : Nat
  source : Nat
  arg : Nat
  role : Nat
  polarity : Nat
  deriving DecidableEq, Repr

/-- The payload of a WRITE_DETECTOR request (11.4, detector assignment); the sets are the four bytes as sent. -/
structure DetectorWrite where
  channel : Nat
  enabled : Nat
  demandSet : BitVec 32
  extensionSet : BitVec 32
  demandType : Nat
  activity : Nat
  substitution : Nat
  stretch : Nat
  sensitivity : Nat
  presence : Nat
  deriving DecidableEq, Repr

/-- The payload of a WRITE_BANK request (11.4, bank). -/
structure BankWrite where
  bank : Nat
  mode : Nat
  nc : Nat
  k : Nat
  deriving DecidableEq, Repr

/-- The payload of a WRITE_PLAN request (11.4, plan). -/
structure PlanWrite where
  plan : Nat
  minGo : Vector Nat 24
  maxGo : Vector Nat 24
  margin : Nat
  passage : Nat
  maxExt : Nat
  recovery : Nat
  callTimeout : Nat
  restDelay : Nat
  deriving DecidableEq, Repr

/-- The payload of a CALL_CHECKIN request (11.5, check-in payload). -/
structure Checkin where
  tram : Nat
  group : Nat
  cls : Nat
  travel : Nat
  deriving DecidableEq, Repr

/-- The commands: the rows of spec/opcode_table.json, in the table's order. -/
inductive Instr where
  /-- HARDWARE_RESET (R98, R180): the levels of the straps at its end: SPD1 SPD0 as a number, CEN, JN3 to JN0. -/
  | hardwareReset (speed : Nat) (cen : Bool) (junction : Nat)
  /-- BYTE_RECEIVED (R182): a byte completes at a port's RX pin; `stopHigh` is the level of its stop bit (R181). -/
  | byteReceived (p : Port) (b : Nat) (stopHigh : Bool)
  /-- FRAME_GAP_TIMEOUT (R182): 10 ms pass at a port inside a frame. -/
  | frameGapTimeout (p : Port)
  /-- RESPONSE_SENT (R184): the last byte of the port's response has been sent. -/
  | responseSent (p : Port)
  /-- UNKNOWN_KIND (R186): a well-formed frame whose KIND is no request kind of the part. -/
  | unknownKind (p : Port) (kind : Nat)
  /-- SWITCH_ON (R101). -/
  | switchOn (p : Port)
  /-- SWITCH_FLASH (R106). -/
  | switchFlash (p : Port)
  /-- SWITCH_OFF (R107). -/
  | switchOff (p : Port)
  /-- FAULT_RESET (R111). -/
  | faultReset (p : Port)
  /-- RESTART (R112). -/
  | restart (p : Port)
  /-- STAGE_DEMAND (R119, R50). -/
  | stageDemand (p : Port) (stage : Nat)
  /-- REFRESH (R113). -/
  | refresh (p : Port)
  /-- SELECT_PLAN (R121). -/
  | selectPlan (p : Port) (plan : Nat)
  /-- LOCAL_RECLAIM (R118). -/
  | localReclaim (p : Port)
  /-- TAKE_CONTROL (R116). -/
  | takeControl (p : Port)
  /-- RELEASE_CONTROL (R117). -/
  | releaseControl (p : Port)
  /-- WRITE_GROUP (R4). -/
  | writeGroup (p : Port) (w : GroupWrite)
  /-- WRITE_CONFLICT_ROW (R25): the row's group and its 24 entries, 255 for no conflict. -/
  | writeConflictRow (p : Port) (group : Nat) (row : Vector Nat 24)
  /-- WRITE_STAGE (R26): the stage, its configured mark and its group set as sent. -/
  | writeStage (p : Port) (stage : Nat) (mark : Nat) (set : BitVec 32)
  /-- WRITE_JUNCTION (R190). -/
  | writeJunction (p : Port) (w : JunctionWrite)
  /-- WRITE_OUTPUT (R166). -/
  | writeOutput (p : Port) (w : OutputWrite)
  /-- WRITE_DETECTOR (R153). -/
  | writeDetector (p : Port) (w : DetectorWrite)
  /-- WRITE_BANK (R134). -/
  | writeBank (p : Port) (w : BankWrite)
  /-- WRITE_PLAN (R191). -/
  | writePlan (p : Port) (w : PlanWrite)
  /-- READ_TABLE (R189): the table's code and the index byte. -/
  | readTable (p : Port) (table : Nat) (index : Nat)
  /-- FORCE_OUTPUT (R169): the channel and the force's code. -/
  | forceOutput (p : Port) (channel : Nat) (force : Nat)
  /-- READ_STATUS (R188). -/
  | readStatus (p : Port)
  /-- READ_DETECTORS (R151). -/
  | readDetectors (p : Port)
  /-- READ_COUNTS (R162): the clear flag's byte. -/
  | readCounts (p : Port) (clear : Nat)
  /-- READ_CALLS (R97). -/
  | readCalls (p : Port)
  /-- READ_EVENTS (R193). -/
  | readEvents (p : Port)
  /-- CLEAR_EVENTS (R193): the event set as sent. -/
  | clearEvents (p : Port) (set : BitVec 32)
  /-- SET_EVENT_MASK (R193): the event mask as sent. -/
  | setEventMask (p : Port) (set : BitVec 32)
  /-- CALL_CHECKIN (R68). -/
  | callCheckin (p : Port) (w : Checkin)
  /-- CALL_CHECKOUT (R71). -/
  | callCheckout (p : Port) (tram : Nat)
  /-- CALL_CANCEL (R71). -/
  | callCancel (p : Port) (tram : Nat)
  /-- START_TIMER_EXPIRY (R35) at a group 1 to 24. -/
  | startTimerExpiry (group : Nat)
  /-- PREPARE_TIMER_EXPIRY (R13). -/
  | prepareTimerExpiry (group : Nat)
  /-- MIN_GO_EXPIRY (R15). -/
  | minGoExpiry (group : Nat)
  /-- HOLD_END_REACHED (R16). -/
  | holdEndReached (group : Nat)
  /-- CLEAR_TIMER_EXPIRY (R18). -/
  | clearTimerExpiry (group : Nat)
  /-- MIN_STOP_EXPIRY (R9). -/
  | minStopExpiry (group : Nat)
  /-- MAX_GO_REACHED (R126). -/
  | maxGoReached (group : Nat)
  /-- STARTUP_RED_EXPIRY (R103). -/
  | startupRedExpiry
  /-- CLOSING_RED_EXPIRY (R109). -/
  | closingRedExpiry
  /-- LAPSE_LOCAL (R114). -/
  | lapseLocal
  /-- LAPSE_CENTRAL (R114). -/
  | lapseCentral
  /-- ACTION_TIMER_EXPIRY (R79) of the call of a tram. -/
  | actionTimerExpiry (tram : Nat)
  /-- SERVICE_END_REACHED (R82) of the call of a tram. -/
  | serviceEndReached (tram : Nat)
  /-- RECOVERY_EXPIRY (R87). -/
  | recoveryExpiry
  /-- CALL_TIMEOUT (R72) of the call of a tram. -/
  | callTimeout (tram : Nat)
  /-- STEP_GREEN_TIMER_EXPIRY (R126). -/
  | stepGreenTimerExpiry
  /-- REST_DELAY_REACHED (R129). -/
  | restDelayReached
  /-- LOOP_VISIT_COMPLETE (R140) of a bank 0 to 3: the period count P, or none for no oscillation (R138). -/
  | loopVisitComplete (bank : Nat) (count : Option Nat)
  /-- CONTACT_SAMPLE (R149) of a bank 0 to 3: the levels of its eight inputs, bit 0 the lowest channel, 1 for high. -/
  | contactSample (bank : Nat) (levels : BitVec 8)
  /-- STRETCH_TIMER_EXPIRY (R158) of a detector channel 1 to 32. -/
  | stretchTimerExpiry (channel : Nat)
  /-- LAMP_SAMPLE (R171): the levels of the 72 sense inputs, bit 0 for output channel 1, 1 for high. -/
  | lampSample (levels : BitVec 72)
  /-- FLASHER_PHASE_CHANGE (R168). -/
  | flasherPhaseChange
  /-- TRANSMISSION_BEGINS (R185). -/
  | transmissionBegins (p : Port)
  /-- DECISECOND_ELAPSED_RISE (R1): time passes, by the first of the spans that wait in the state, or else by a whole
  decisecond (notes/assumptions/3.md); each value counts it from its own event. -/
  | decisecondElapsedRise
  deriving DecidableEq, Repr

end Sys2Proof
end

