-- ==== Sys2Proof/Decode.lean ====
section
/-! DEFINITION. The command that a word spells by the bits of spec/opcode_table.json. The table gives no row any bits: the
part has no instruction encoding, and its requests reach it as frames (11_record_and_frame_formats.md), which the link's
receiver takes byte by byte. So no word spells a command (notes/assumptions/14.md). -/

namespace Sys2Proof

/-- The command of a word of the table: none, for every word, as no row has bits. -/
def decodeTableWord (_nbits _w : Nat) : Option Instr := none

end Sys2Proof
end

