-- ==== Sys2Proof/Config.lean ====
section
/-! DEFINITION. The fixed numbers of the part, and the one bound that is the model's own. The spec leaves no result
of a command open (see NOTES.md, Assumptions), so no free value stands here. -/

namespace Sys2Proof.Config

/-- The SYNC byte of every frame (R181). -/
def sync : Byte := 0xC3

/-- The longest LEN of a frame (R181). -/
def maxLen : Nat := 200

/-- The CRC register before the first byte of a frame (R183). -/
def crcStart : BitVec 16 := 0xFFFF

/-- The CRC polynomial x^16 + x^12 + x^5 + 1 (R183). -/
def crcPoly : BitVec 16 := 0x1021

/-- Where every elapsed value, count and occupancy total stops (R1, R161). -/
def countMax : Nat := 65535

/-- The most calls the call list holds (R67). -/
def maxCalls : Nat := 8

/-- The most records the return stack holds (R90). -/
def maxStack : Nat := 4

/-- The travel time above which a check-in is taken as this (R68). -/
def maxTravel : Nat := 1200

/-- Microseconds in a decisecond; microseconds are the unit of the model's time base (DESIGN CHOICE, safe to the microsecond,
notes/assumptions/3.md). -/
def decisecond : Nat := 100000

/-- Microseconds between a drive change and the first comparable sample: 200 ms (R171). -/
def provingSettle : Nat := 200000

/-- Channel records in one segment of a READ_DETECTORS response (R197). -/
def segmentRecords : Nat := 12

/-- DESIGN CHOICE (unsafe, notes/assumptions/2.md): how many reports, moves and evaluations the blocks take of one
another within one command before the rest is left in `State.work` for the next command. -/
def settleBound : Nat := 100000

end Sys2Proof.Config
end

