-- ==== Sys2Proof/Machine/State.lean ====
section
/-! DEFINITION. The state of the part as plain data, one structure for each block of 00_scope.md (Block overview), and
its value right after a hardware reset. Each timer and elapsed value counts from its own event (R1), so it is held in
microseconds: what the spec calls "ds remaining, or idle" is an `Option Nat` that runs down as time passes, and its value
in ds is that rounded up (`dsUp`); an elapsed value is the time since its event, and its value in ds is that rounded down
(`wholeDs`). Times that the spec calls "a time" are points on `State.now`, in microseconds (notes/assumptions/3.md). -/

namespace Sys2Proof.Machine

/-- The kind of a group (R3). -/
inductive Kind where
  | unused
  | vehicle
  | pedestrian
  | tram
  deriving DecidableEq, Repr

/-- The state of a group (R6). -/
inductive GroupState where
  | dark
  | flash
  | stop
  | prepare
  | go
  | clear
  deriving DecidableEq, Repr

/-- An order of the Mode Controller that a group can keep pending (R20). -/
inductive Order where
  | flash
  | dark
  deriving DecidableEq, Repr

/-- A lamp role of a group (R3). -/
inductive Role where
  | stop
  | warn
  | go
  deriving DecidableEq, Repr

/-- The configuration part of a group record (R2). -/
structure GroupConfig where
  kind : Kind
  clearTime : Nat
  prepareTime : Nat
  minStop : Nat
  redMonitored : Bool
  deriving DecidableEq, Repr

/-- The running part of a group record (R2), with the min go timer of R14. -/
structure GroupRun where
  state : GroupState
  stateTimer : Option Nat
  minGoInForce : Nat
  maxGoInForce : Nat
  minGoLapsed : Bool
  minGoTimer : Option Nat
  minStopTimer : Option Nat
  startTimer : Option Nat
  goElapsed : Nat
  sinceGo : Option Nat
  holdEnd : Option Nat
  gaining : Bool
  terminating : Bool
  pendingOrder : Option Order
  deriving DecidableEq, Repr

/-- How far central control may act (R99, R115). -/
inductive Permission where
  | none
  | demand
  | full
  deriving DecidableEq, Repr

/-- The junction record (R190). -/
structure Junction where
  startStage : StageId
  restStage : StageId
  priority : Vector StageId 24
  sequence : List StageId
  permission : Permission
  localTime : Nat
  centralPeriod : Nat
  startupRed : Nat
  closingRed : Nat
  standbyPlan : PlanId
  flasherRate : Nat
  deriving DecidableEq, Repr

/-- The source of an output channel (R165). -/
inductive Source where
  | off
  | on
  | groupRole (g : GroupId) (r : Role)
  | flasherA
  | flasherB
  | callAck (g : GroupId)
  | detector (ch : ChanId)
  deriving DecidableEq, Repr

/-- The stored part of an output channel record: source and polarity (R165); `inverted` is polarity INVERTED. -/
structure OutputConfig where
  source : Source
  inverted : Bool
  deriving DecidableEq, Repr

/-- The configuration fields and the stretch of a detector assignment record (R152); `locking` is demand type LOCKING. -/
structure DetectorConfig where
  enabled : Bool
  demandSet : GroupSet
  extensionSet : GroupSet
  locking : Bool
  activity : Bool
  substitution : Bool
  stretch : Nat
  deriving DecidableEq, Repr

/-- The mode of a bank (R133). -/
inductive BankMode where
  | loop
  | contact
  deriving DecidableEq, Repr

/-- A bank record (R133). -/
structure BankConfig where
  mode : BankMode
  nc : Nat
  k : Nat
  deriving DecidableEq, Repr

/-- A plan record as written (R191). -/
structure Plan where
  minGo : Vector Nat 24
  maxGo : Vector Nat 24
  margin : Nat
  passage : Nat
  maxExt : Nat
  recovery : Nat
  callTimeout : Nat
  restDelay : Nat
  deriving DecidableEq, Repr

/-- The Configuration Store: the tables of the part. `matrix[c][g]` is the entry (c, g): the intergreen I(c→g), or none
for "no conflict" (R24). `stages` holds stages 1 to 16; none is "not configured" (R26). -/
structure Tables where
  groups : Vector GroupConfig 24
  matrix : Vector (Vector (Option Nat) 24) 24
  stages : Vector (Option GroupSet) 16
  junction : Junction
  outputs : Vector OutputConfig 72
  detectors : Vector DetectorConfig 32
  banks : Vector BankConfig 4
  plans : Vector Plan 4
  deriving DecidableEq, Repr

/-- The Right-of-Way Arbiter (R41); `stable` is transition status STABLE. -/
structure Arbiter where
  target : StageId
  current : StageId
  stable : Bool
  returnTarget : Option StageId
  demand : Option StageId
  modeTarget : Option StageId
  priorityRequest : Option StageId
  deriving DecidableEq, Repr

/-- The junction mode (R98). `localMode` and `centralMode` are LOCAL and CENTRAL. -/
inductive Mode where
  | dark
  | flash
  | faultFlash
  | startup
  | localMode
  | centralMode
  | standby
  | closing
  deriving DecidableEq, Repr

/-- The kind of the last reset (R98). -/
inductive StartCause where
  | power
  | restart
  deriving DecidableEq, Repr

/-- The Mode Controller (R98). -/
structure ModeControl where
  mode : Mode
  closingDest : Option Order
  startupRed : Option Nat
  released : Bool
  closingRed : Option Nat
  localTimer : Option Nat
  localAlive : Bool
  centralTimer : Option Nat
  centralAlive : Bool
  startCause : StartCause
  activePlan : PlanId
  pendingPlan : PlanId
  faultLine : Bool
  deriving DecidableEq, Repr

/-- The state of a call (R74). -/
inductive CallState where
  | waiting
  | natural
  | blocked
  | early
  | extend
  | suspended
  deriving DecidableEq, Repr

/-- A call record (R66). -/
structure Call where
  tram : Nat
  group : GroupId
  cls : Nat
  travel : Nat
  elapsed : Nat
  stamp : Nat
  state : CallState
  actionTimer : Option Nat
  extensionLimit : Option Nat
  serviceEnd : Option Nat
  deriving DecidableEq, Repr

/-- The action of a call that a push suspended (R90). -/
inductive Action where
  | early
  | extend
  deriving DecidableEq, Repr

/-- A return record (R90). -/
structure ReturnRecord where
  resume : StageId
  demand : Option StageId
  standbyRemaining : Option Nat
  call : Option Nat
  suspended : Option Action
  stale : Bool
  deriving DecidableEq, Repr

/-- The Priority Unit (R65); `stack` is the return stack, top first; bit i of `served` is the green served flag of group
i + 1. -/
structure PriorityUnit where
  calls : List Call
  stack : List ReturnRecord
  recovery : Option Nat
  arrivals : Nat
  resumedMark : Bool
  served : GroupSet
  deriving DecidableEq, Repr

/-- The Standby Unit (R122). -/
structure Standby where
  stepIndex : Nat
  stepStage : Option StageId
  established : Bool
  atRest : Bool
  suspended : Bool
  resumed : Bool
  stepGreen : Option Nat
  resumeGreen : Option Nat
  restElapsed : Nat
  deriving DecidableEq, Repr

/-- The state of a detector channel (R135). -/
inductive ChanState where
  | disabled
  | untuned
  | vacant
  | occupied
  | fault
  deriving DecidableEq, Repr

/-- The class of a channel fault (R135). -/
inductive FaultClass where
  | openLoop
  | shortLoop
  | jump
  | stuck
  deriving DecidableEq, Repr

/-- The candidate state of a confirmation run (R135). -/
inductive Candidate where
  | vacant
  | occupied
  deriving DecidableEq, Repr

/-- A channel measurement record (R135). -/
structure Channel where
  state : ChanState
  fault : Option FaultClass
  baseline : Option Nat
  lastD : Int
  confirm : Option (Candidate × Nat)
  faultRun : Option (FaultClass × Nat)
  recovery : Nat
  occupied : Nat
  sensitivity : Nat
  presence : Nat
  deriving DecidableEq, Repr

/-- The visit in flight of a bank's measurement engine (R137, R138): the channel and the cycle count it started with. -/
structure Visit where
  channel : ChanId
  nc : Nat
  deriving DecidableEq, Repr

/-- The Detector Logic (R155): latches, demand and extension by group, stretch timers, counts and totals by channel.
`spell` is the part of a decisecond that a channel's present OCCUPIED spell has not yet put into its total (R1). -/
structure DetectorLogic where
  latch : GroupSet
  demand : GroupSet
  extension : GroupSet
  stretch : Vector (Option Nat) 32
  count : Vector Nat 32
  total : Vector Nat 32
  spell : Vector Nat 32
  deriving DecidableEq, Repr

/-- The lit value of an output channel (R167); `flashA` is flashing with phase A, `flashB` with phase B. -/
inductive Lit where
  | off
  | on
  | flashA
  | flashB
  deriving DecidableEq, Repr

/-- The Output Unit: forces (R169; some true is ON), lit values (R167), the flasher's phase and the rate of its period in
progress (R168), and the levels loaded on the lamp drive chain (R167, pins LDRV_*). -/
structure OutputUnit where
  force : Vector (Option Bool) 72
  lit : Vector Lit 72
  phaseA : Bool
  rate : Nat
  chain : BitVec 72
  deriving DecidableEq, Repr

/-- The proving status of an output channel (R170). -/
inductive Proving where
  | notProven
  | proven
  | lampOut
  | leak
  deriving DecidableEq, Repr

/-- The kind of a mismatch run (R170). -/
inductive Mismatch where
  | onNotSensed
  | offSensed
  deriving DecidableEq, Repr

/-- The proving state of one output channel (R170). -/
structure Lamp where
  status : Proving
  matchRun : Nat
  mismatch : Option (Mismatch × Nat)
  lastChange : Nat
  deriving DecidableEq, Repr

/-- The Lamp Monitor (R170); bit i of `redOut` is the red-out flag of group i + 1. -/
structure LampMonitor where
  lamps : Vector Lamp 72
  redOut : GroupSet
  conflictRun : Nat
  latestConflict : Bool
  deriving DecidableEq, Repr

/-- The receive state of a port (R179). -/
inductive RxState where
  | hunt
  | length
  | body
  | check
  deriving DecidableEq, Repr

/-- The port record of the Link Interface (R179). `body` holds the KIND and payload bytes taken so far and `crcLow` the
first CHECK byte (R182). `busy` is request slot BUSY, `sending` transmitter SENDING. `response` holds the frames of the
response formed (R185), one for each segment. Bit n of `flags` and `mask` and entry n of `details` belong to the event
kind of code n (11.3). -/
structure PortRecord where
  rx : RxState
  toCome : Nat
  crc : BitVec 16
  body : List Byte
  crcLow : Byte
  busy : Bool
  sending : Bool
  response : List (List Byte)
  flags : BitVec 19
  details : Vector Nat 19
  mask : BitVec 19
  attention : Bool
  deriving DecidableEq, Repr

/-- The three port records (R179). -/
structure Ports where
  l : PortRecord
  c : PortRecord
  t : PortRecord
  deriving DecidableEq, Repr

/-- The straps latched at the end of a hardware reset (R180); `speed` is SPD1 SPD0 as a number, `cen` the level of CEN. -/
structure Straps where
  speed : Fin 4
  cen : Bool
  junction : Fin 16
  deriving DecidableEq, Repr

/-- A report from one block to another that has been made and not yet taken (R7, R16, R43, R82, R173, R175). The model's own
(notes/assumptions/2.md). -/
inductive Report where
  /-- the Arbiter's established report, with the stage (R43) -/
  | established (st : StageId)
  /-- a judging event of a standby step and of rest entry (R127, R129) -/
  | judgeStep
  /-- a judging event of rest entry alone: a plan switch (R129) -/
  | judgeRest
  /-- the arrival of a hold end that a check of R15 found reached (R16, R86) -/
  | holdEnd (g : GroupId)
  /-- a service end that lies at the moment it was set (R81, R94) -/
  | serviceEnd (tram : Nat)
  /-- red-out of a group, to the Mode Controller (R175, R176) -/
  | redOut (g : GroupId)
  /-- a conflict fault, to the Mode Controller (R173) -/
  | conflictFault
  deriving DecidableEq, Repr

/-- What a group has to do at this moment because its flags or a conflicting group changed. The model's own. -/
inductive Move where
  /-- the start timer of the group is set anew (R36) -/
  | start (g : GroupId)
  /-- the conditions of R15 are checked at the group -/
  | terminate (g : GroupId)
  deriving DecidableEq, Repr

/-- What the blocks still have to take of one another within the present moment: `requests` are the priority requests that
the Priority Unit has handed to the Arbiter or withdrawn while groups had a target change still to take (R47, R49). Empty
between commands but for `Config.settleBound`. The model's own (notes/assumptions/2.md). -/
structure Work where
  reports : List Report
  moves : List Move
  requests : List (Option StageId)
  evaluate : Bool
  deriving DecidableEq, Repr

/-- The whole state of the part, and what waits outside it, first in first out: the queue of commands, and the spans of time
in microseconds that pass at the coming DECISECOND_ELAPSED_RISE (notes/assumptions/3.md). -/
structure State where
  tables : Tables
  groups : Vector GroupRun 24
  arb : Arbiter
  mc : ModeControl
  pu : PriorityUnit
  sb : Standby
  chans : Vector Channel 32
  engines : Vector (Option Visit) 4
  det : DetectorLogic
  out : OutputUnit
  lm : LampMonitor
  ports : Ports
  straps : Straps
  now : Nat
  work : Work
  spans : List Nat
  pending : List Instr
  deriving DecidableEq, Repr

/-- The reasons for which the machine stops with a fault: none. The spec gives every command an effect or a refusal
response, which is an effect; so this type has no constructor and no meaning ends in a fault. -/
inductive Fault where
  deriving DecidableEq, Repr

/-- The reasons for which the model gives no meaning. -/
inductive Refusal where
  /-- Raised by `exec` alone, for a command that has no meaning yet. Safe: the model stops. -/
  | notModelled (mnemonic : String)
  deriving DecidableEq, Repr

/-- What a meaning answers. -/
abbrev Answer := Host.Outcome State Fault Refusal

/-! ## Reset values -/

/-- R5. -/
def GroupConfig.reset : GroupConfig :=
  { kind := .unused, clearTime := 0, prepareTime := 0, minStop := 0, redMonitored := false }

/-- R5, after a hardware reset and after a RESTART. -/
def GroupRun.reset : GroupRun :=
  { state := .dark, stateTimer := none, minGoInForce := 0, maxGoInForce := 0, minGoLapsed := false, minGoTimer := none,
    minStopTimer := none, startTimer := none, goElapsed := 0, sinceGo := none, holdEnd := none, gaining := false,
    terminating := false, pendingOrder := none }

/-- R27, R99, R168, R190. -/
def Junction.reset : Junction :=
  { startStage := 0, restStage := 0, priority := Vector.replicate 24 0, sequence := [], permission := .none,
    localTime := 50, centralPeriod := 300, startupRed := 50, closingRed := 50, standbyPlan := 0, flasherRate := 50 }

/-- R165. -/
def OutputConfig.reset : OutputConfig := { source := .off, inverted := false }

/-- R152. -/
def DetectorConfig.reset : DetectorConfig :=
  { enabled := false, demandSet := 0, extensionSet := 0, locking := false, activity := false, substitution := false,
    stretch := 0 }

/-- R133. -/
def BankConfig.reset : BankConfig := { mode := .loop, nc := 512, k := 2 }

/-- R191: every field of every plan is 0. -/
def Plan.reset : Plan :=
  { minGo := Vector.replicate 24 0, maxGo := Vector.replicate 24 0, margin := 0, passage := 0, maxExt := 0,
    recovery := 0, callTimeout := 0, restDelay := 0 }

/-- The tables after a hardware reset (R5, R24, R26, R27, R133, R152, R165, R191). -/
def Tables.reset : Tables :=
  { groups := Vector.replicate 24 GroupConfig.reset, matrix := Vector.replicate 24 (Vector.replicate 24 none),
    stages := Vector.replicate 16 none, junction := Junction.reset, outputs := Vector.replicate 72 OutputConfig.reset,
    detectors := Vector.replicate 32 DetectorConfig.reset, banks := Vector.replicate 4 BankConfig.reset,
    plans := Vector.replicate 4 Plan.reset }

/-- R42, after a hardware reset and after a RESTART. -/
def Arbiter.reset : Arbiter :=
  { target := 0, current := 0, stable := true, returnTarget := none, demand := none, modeTarget := some 0,
    priorityRequest := none }

/-- R98, after a hardware reset. -/
def ModeControl.reset : ModeControl :=
  { mode := .dark, closingDest := none, startupRed := none, released := false, closingRed := none, localTimer := none,
    localAlive := false, centralTimer := none, centralAlive := false, startCause := .power, activePlan := 0,
    pendingPlan := 0, faultLine := false }

/-- R65, after a hardware reset and after a RESTART. -/
def PriorityUnit.reset : PriorityUnit :=
  { calls := [], stack := [], recovery := none, arrivals := 0, resumedMark := false, served := 0 }

/-- R122, after both resets and at each exit from STANDBY. -/
def Standby.reset : Standby :=
  { stepIndex := 0, stepStage := none, established := false, atRest := false, suspended := false, resumed := false,
    stepGreen := none, resumeGreen := none, restElapsed := 0 }

/-- R135, after a hardware reset. -/
def Channel.reset : Channel :=
  { state := .disabled, fault := none, baseline := none, lastD := 0, confirm := none, faultRun := none, recovery := 0,
    occupied := 0, sensitivity := 500, presence := 0 }

/-- R155, after a hardware reset. -/
def DetectorLogic.reset : DetectorLogic :=
  { latch := 0, demand := 0, extension := 0, stretch := Vector.replicate 32 none, count := Vector.replicate 32 0,
    total := Vector.replicate 32 0, spell := Vector.replicate 32 0 }

/-- R165, R168 after a hardware reset: no force, every source OFF, phase A on, 50 flashes per minute. -/
def OutputUnit.reset : OutputUnit :=
  { force := Vector.replicate 72 none, lit := Vector.replicate 72 .off, phaseA := true, rate := 50, chain := 0 }

/-- R170: the proving state of a channel after either reset, whose end lies at `t`. -/
def Lamp.reset (t : Nat) : Lamp := { status := .notProven, matchRun := 0, mismatch := none, lastChange := t }

/-- R170: the Lamp Monitor after either reset, whose end lies at `t`. -/
def LampMonitor.reset (t : Nat) : LampMonitor :=
  { lamps := Vector.replicate 72 (Lamp.reset t), redOut := 0, conflictRun := 0, latestConflict := false }

/-- The event set or mask that holds START alone (R179); START has code 0. -/
def startOnly : BitVec 19 := 1

/-- R179: a port record after either reset; START is posted with the start cause's code to an enabled port (R180). -/
def PortRecord.reset (enabled : Bool) (cause : Nat) : PortRecord :=
  { rx := .hunt, toCome := 0, crc := Config.crcStart, body := [], crcLow := 0, busy := false, sending := false,
    response := [], flags := if enabled then startOnly else 0,
    details := if enabled then (Vector.replicate 19 0).set 0 cause else Vector.replicate 19 0,
    mask := startOnly, attention := enabled }

/-- The three port records after either reset (R179, R180). -/
def Ports.reset (cen : Bool) (cause : Nat) : Ports :=
  { l := PortRecord.reset true cause, c := PortRecord.reset cen cause, t := PortRecord.reset true cause }

/-- Nothing in flight between the blocks. -/
def Work.idle : Work := { reports := [], moves := [], requests := [], evaluate := false }

/-- The machine right after a hardware reset that latched these straps (R98, R180). -/
def State.afterReset (straps : Straps) : State :=
  { tables := Tables.reset, groups := Vector.replicate 24 GroupRun.reset, arb := Arbiter.reset, mc := ModeControl.reset,
    pu := PriorityUnit.reset, sb := Standby.reset, chans := Vector.replicate 32 Channel.reset,
    engines := Vector.replicate 4 none, det := DetectorLogic.reset, out := OutputUnit.reset, lm := LampMonitor.reset 0,
    ports := Ports.reset straps.cen 0, straps := straps, now := 0, work := Work.idle, spans := [],
    pending := [] }

/-- DESIGN CHOICE (unsafe, notes/assumptions/1.md): the strap levels at reset, which are board wiring: 38,400 bit/s,
port C enabled, junction number 0. -/
def Straps.chosen : Straps := { speed := 1, cen := true, junction := 0 }

/-- The machine right after reset, with the straps of notes/assumptions/1.md and nothing in the queue. -/
def State.reset : State := State.afterReset Straps.chosen

end Sys2Proof.Machine
end

