-- ==== Sys2Proof/Machine/Ops.lean ====
section
/-! DEFINITION. The named operations over the part's state that every block uses: records of groups, calls and ports read
and written by number, timers and elapsed values, the posting of events with the judging of the attention lines (R192,
R194), and the work that the blocks hand one another within one moment (notes/assumptions/2.md). -/

namespace Sys2Proof.Machine

/-! ## Timers and elapsed values (R1) -/

/-- The microseconds in n deciseconds. -/
def us (n : Nat) : Nat := n * Config.decisecond

/-- The value in ds of a time that has passed since its event: the whole deciseconds in it (R1). -/
def wholeDs (t : Nat) : Nat := t / Config.decisecond

/-- The value in ds of a time that is left: it falls by 1 at each whole decisecond after its event (R1). -/
def dsUp (t : Nat) : Nat := (t + (Config.decisecond - 1)) / Config.decisecond

/-- The ds that a timer has left, 0 where it is idle. -/
def dsLeft (t : Option Nat) : Nat := dsUp (t.getD 0)

/-- A timer after a span of time; an idle timer stays idle, and one that has run out stays at 0 until its expiry is taken
(notes/assumptions/4.md). -/
def runDown (span : Nat) (t : Option Nat) : Option Nat := t.map (· - span)

/-- An elapsed value after a span of time: it stops at 65,535 ds (R1). -/
def elapse (span t : Nat) : Nat := min (t + span) (us Config.countMax)

/-- A count or total that rises by n and stops at 65,535 (R161). -/
def rise (n count : Nat) : Nat := min (count + n) Config.countMax

/-- A timer started with n ds; started with 0 it expires at that event, so it is idle afterwards (R1). -/
def startedTimer (n : Nat) : Option Nat := if n = 0 then none else some (us n)

/-- Whether a timer runs and its time has run out, so that its expiry is due (R1). -/
def timerDue (t : Option Nat) : Bool := t == some 0

/-- Whether a point on the time base is present and has been reached. -/
def State.reached (s : State) (t : Option Nat) : Bool :=
  match t with
  | some n => decide (n ≤ s.now)
  | none => false

/-! ## Tables -/

/-- The configuration part of a group record. -/
def State.cfg (s : State) (g : GroupId) : GroupConfig := s.tables.groups[g]

/-- The kind of a group. -/
def State.kind (s : State) (g : GroupId) : Kind := (s.cfg g).kind

/-- The matrix entry (c, g): I(c→g), or none for "no conflict" (R24). -/
def State.intergreen (s : State) (c g : GroupId) : Option Nat := s.tables.matrix[c][g]

/-- What the stage table holds for a stage: none is "not configured"; stage 0 is always configured and empty (R26). -/
def Tables.stage (t : Tables) (st : StageId) : Option GroupSet :=
  if h : st.val = 0 then some 0 else t.stages[st.val - 1]'(by omega)

/-- The group set of a stage; a stage that is not configured has no groups. -/
def State.stageSet (s : State) (st : StageId) : GroupSet := (s.tables.stage st).getD 0

/-- The record of the active plan. -/
def State.plan (s : State) : Plan := s.tables.plans[s.mc.activePlan]

/-- Whether standby is enabled: the standby sequence holds at least one entry (R99). -/
def State.standbyEnabled (s : State) : Bool := !s.tables.junction.sequence.isEmpty

/-! ## Group records -/

/-- The running part of a group record. -/
def State.grp (s : State) (g : GroupId) : GroupRun := s.groups[g]

/-- The state with the running part of one group record replaced. -/
def State.setGrp (s : State) (g : GroupId) (r : GroupRun) : State := { s with groups := s.groups.set g r }

/-- The groups of a list of all 24 that satisfy a test, in ascending order. -/
def groupsWhere (f : GroupId → Bool) : List GroupId := groupIds.filter f

/-- A set of groups with one group put in or taken out. -/
def setGroupBit (m : GroupSet) (g : GroupId) (b : Bool) : GroupSet :=
  if b then m ||| BitVec.twoPow 24 g.val else m &&& ~~~(BitVec.twoPow 24 g.val)

/-- The set of the groups that satisfy a test. -/
def groupSetOf (f : GroupId → Bool) : GroupSet :=
  groupIds.foldl (fun m g => if f g then m ||| BitVec.twoPow 24 g.val else m) 0

/-- Whether a mode is a signal control mode: LOCAL, CENTRAL or STANDBY. -/
def Mode.isSignal : Mode → Bool
  | .localMode | .centralMode | .standby => true
  | .dark | .flash | .faultFlash | .startup | .closing => false

/-- Whether a mode is one in which the tables may be written: DARK, FLASH or FAULT_FLASH (R28). -/
def Mode.isIdle : Mode → Bool
  | .dark | .flash | .faultFlash => true
  | .startup | .localMode | .centralMode | .standby | .closing => false

/-! ## Calls -/

/-- Whether a call acts, in EARLY or EXTEND (R74). -/
def Call.acting (c : Call) : Bool := c.state == .early || c.state == .extend

/-- The call of a tram, where the call list holds one. -/
def State.call? (s : State) (tram : Nat) : Option Call := s.pu.calls.find? (·.tram == tram)

/-- The acting call, where there is one. -/
def State.actingCall? (s : State) : Option Call := s.pu.calls.find? Call.acting

/-- The state with the record of one tram's call changed. -/
def State.updateCall (s : State) (tram : Nat) (f : Call → Call) : State :=
  { s with pu := { s.pu with calls := s.pu.calls.map fun c => if c.tram == tram then f c else c } }

/-- A call's expected time to arrival T (R66). -/
def Call.eta (c : Call) : Nat := c.travel - wholeDs c.elapsed

/-! ## Work handed between the blocks within one moment (notes/assumptions/2.md) -/

/-- A report made, taken after the reports made before it, when no group has anything left to do. -/
def State.report (s : State) (r : Report) : State :=
  { s with work := { s.work with reports := s.work.reports ++ [r] } }

/-- Something a group has to do at this moment, done before any report is taken (R57). -/
def State.move (s : State) (m : Move) : State := { s with work := { s.work with moves := s.work.moves ++ [m] } }

/-- Several moves, in order. -/
def State.moveAll (s : State) (ms : List Move) : State := { s with work := { s.work with moves := s.work.moves ++ ms } }

/-- An evaluation event of the Priority Unit (R76); the pass runs when no report and no move is left. -/
def State.evaluateCalls (s : State) : State := { s with work := { s.work with evaluate := true } }

/-! ## Ports and events -/

/-- The 19 event kinds (R192). -/
inductive EventKind where
  | start
  | mode
  | authority
  | lapseLocal
  | lapseCentral
  | detFault
  | detClear
  | presenceLimit
  | lamp
  | conflict
  | redOut
  | callExpired
  | callEvicted
  | callDropped
  | extRefused
  | stackOverflow
  | framing
  | crcError
  | overrun
  deriving DecidableEq, Repr

/-- The code of an event kind: its bit in an event set (11.3). -/
def EventKind.code : EventKind → Fin 19
  | .start => 0
  | .mode => 1
  | .authority => 2
  | .lapseLocal => 3
  | .lapseCentral => 4
  | .detFault => 5
  | .detClear => 6
  | .presenceLimit => 7
  | .lamp => 8
  | .conflict => 9
  | .redOut => 10
  | .callExpired => 11
  | .callEvicted => 12
  | .callDropped => 13
  | .extRefused => 14
  | .stackOverflow => 15
  | .framing => 16
  | .crcError => 17
  | .overrun => 18

/-- A port's code (11.3). -/
def portCode : Port → Nat
  | .l => 0
  | .c => 1
  | .t => 2

/-- The record of a port. -/
def Ports.get (ps : Ports) : Port → PortRecord
  | .l => ps.l
  | .c => ps.c
  | .t => ps.t

/-- The port records with one replaced. -/
def Ports.put (ps : Ports) (p : Port) (r : PortRecord) : Ports :=
  match p with
  | .l => { ps with l := r }
  | .c => { ps with c := r }
  | .t => { ps with t := r }

/-- Whether the straps leave a port in use: port C only where CEN is high (R180). -/
def State.portEnabled (s : State) : Port → Bool
  | .c => s.straps.cen
  | .l | .t => true

/-- The state with one port's record replaced. -/
def State.setPort (s : State) (p : Port) (r : PortRecord) : State := { s with ports := s.ports.put p r }

/-- The attention line judged: active exactly when event set and mask share a flag (R194). -/
def PortRecord.judgeAttention (r : PortRecord) : PortRecord := { r with attention := (r.flags &&& r.mask) != 0 }

/-- One post to one port: the flag set, its detail replaced (R192), the attention line judged (R194). -/
def PortRecord.post (r : PortRecord) (k : EventKind) (detail : Nat) : PortRecord :=
  { r with
    flags := r.flags ||| BitVec.twoPow 19 k.code.val
    details := r.details.set k.code detail }.judgeAttention

/-- A post to the event set of every enabled port (R192, R180). -/
def State.post (s : State) (k : EventKind) (detail : Nat) : State :=
  { s with
    ports :=
      { l := s.ports.l.post k detail
        c := if s.straps.cen then s.ports.c.post k detail else s.ports.c
        t := s.ports.t.post k detail } }

/-! ## Codes of running values (11.3) -/

/-- The code of a mode. -/
def Mode.code : Mode → Nat
  | .dark => 0
  | .flash => 1
  | .faultFlash => 2
  | .startup => 3
  | .localMode => 4
  | .centralMode => 5
  | .standby => 6
  | .closing => 7

/-- The code of the authority that a mode names (R98): 0 where the mode is no signal control mode. -/
def Mode.authority : Mode → Nat
  | .localMode => 1
  | .centralMode => 2
  | .standby => 3
  | .dark | .flash | .faultFlash | .startup | .closing => 0

/-- The code of a start cause. -/
def StartCause.code : StartCause → Nat
  | .power => 0
  | .restart => 1

end Sys2Proof.Machine
end

