-- ==== Sys2Proof/Machine/Flags.lean ====
section
/-! DEFINITION. The conditions that the part derives from its state: conflicts, the gaining rule and the start timer's
value (R34, R35), the clearance need (R38), the transition status (R43), plan values as read (R8, R191), a call's slack
(R75), and demand and extension by group (R157, R159). -/

namespace Sys2Proof.Machine

/-! ## Groups -/

/-- Whether a group state is GO or PREPARE, the states that keep a conflicting group from gaining (R34). -/
def GroupState.active : GroupState → Bool
  | .go | .prepare => true
  | .dark | .flash | .stop | .clear => false

/-- Whether c conflicts with g: the entry (c, g) holds an intergreen (R24). -/
def State.conflicts (s : State) (c g : GroupId) : Bool := (s.intergreen c g).isSome

/-- Whether the entry (c, g) or the entry (g, c) holds an intergreen, as V1 and the conflict monitor read it (R30, R173). -/
def State.conflictsEither (s : State) (c g : GroupId) : Bool := s.conflicts c g || s.conflicts g c

/-- Whether a group that conflicts with g is in GO or PREPARE (R34, R35). -/
def State.blocked (s : State) (g : GroupId) : Bool :=
  groupIds.any fun c => s.conflicts c g && (s.grp c).state.active

/-- q(g): the prepare time of a VEHICLE group, and 0 for any other (R34). -/
def State.prepareLead (s : State) (g : GroupId) : Nat :=
  match s.kind g with
  | .vehicle => (s.cfg g).prepareTime
  | .unused | .pedestrian | .tram => 0

/-- The term of a conflicting group c in the start timer of g, in ds: max(0, I(c→g) − q(g) − e), with e the whole
deciseconds of c's elapsed since end of GO (R35, R1). -/
def State.startTerm (s : State) (c g : GroupId) : Nat :=
  match s.intergreen c g, (s.grp c).sinceGo with
  | some i, some e => i - s.prepareLead g - wholeDs e
  | _, _ => 0

/-- The largest of a list of terms, and 0 where there is none. -/
def largest (l : List Nat) : Nat := l.foldl max 0

/-- The value of g's start timer when it is set, in ds: the largest of its terms and the deciseconds left of g's min stop
(R35). The timer counts it from the event that sets it (R1; DEDUCED, where the phases differ, notes/assumptions/34.md). -/
def State.startValue (s : State) (g : GroupId) : Nat :=
  max (dsLeft (s.grp g).minStopTimer) (largest (groupIds.map fun c => s.startTerm c g))

/-- The gaining rule of R34. Min stop has lapsed where no time of it remains (notes/assumptions/6.md). -/
def State.gainingRule (s : State) (g : GroupId) : Bool := !s.blocked g && s.startValue g == 0

/-- Whether g is held: its hold end is present and has not been reached (R16). -/
def State.held (s : State) (g : GroupId) : Bool := (s.grp g).holdEnd.isSome && !s.reached (s.grp g).holdEnd

/-- Whether every group that is not UNUSED is in STOP (R103, R109). -/
def State.allStopped (s : State) : Bool :=
  groupIds.all fun g => s.kind g == .unused || (s.grp g).state == .stop

/-- Whether the groups stand as the target asks: every group of the target stage in GO, no other group in GO, PREPARE or
CLEAR (R43). -/
def State.standsAsTarget (s : State) : Bool :=
  groupIds.all fun g =>
    if inSet g (s.stageSet s.arb.target) then (s.grp g).state == .go
    else (s.grp g).state != .go && (s.grp g).state != .prepare && (s.grp g).state != .clear

/-- Whether a group in GO or PREPARE does not belong to a stage: a target change to it terminates a group (R61). -/
def State.leavesOut (s : State) (st : StageId) : Bool :=
  groupIds.any fun g => (s.grp g).state.active && !inSet g (s.stageSet st)

/-- The modes in which a target change can be a transition start (R61). -/
def Mode.transitions : Mode → Bool
  | .startup | .localMode | .centralMode | .standby | .closing => true
  | .dark | .flash | .faultFlash => false

/-! ## Plan values as read (R8, R191) -/

/-- The least min go of a group kind (R8). -/
def Kind.leastGo : Kind → Nat
  | .unused => 0
  | .vehicle => 50
  | .pedestrian => 40
  | .tram => 30

/-- The min go that a group takes from the active plan (R8). -/
def State.planMinGo (s : State) (g : GroupId) : Nat := max s.plan.minGo[g] (s.kind g).leastGo

/-- The max go that a group takes from the active plan (R8). -/
def State.planMaxGo (s : State) (g : GroupId) : Nat := max s.plan.maxGo[g] (s.planMinGo g)

/-- The passage p as read (R191). -/
def State.passage (s : State) : Nat := max s.plan.passage 10

/-- The call timeout as read (R191). -/
def State.callTimeout (s : State) : Nat := max s.plan.callTimeout 100

/-! ## Clearance need (R38) -/

/-- The term of a conflicting group c in N(g). -/
def State.needTerm (s : State) (c g : GroupId) : Nat :=
  match s.intergreen c g with
  | none => 0
  | some i =>
    match (s.grp c).state with
    | .go => i
    | .prepare => dsLeft (s.grp c).stateTimer + s.planMinGo c + i
    | .clear | .stop | .flash | .dark =>
      match (s.grp c).sinceGo with
      | some e => i - wholeDs e
      | none => 0

/-- The term of g itself in N(g). -/
def State.ownNeed (s : State) (g : GroupId) : Nat :=
  match (s.grp g).state with
  | .stop => dsLeft (s.grp g).minStopTimer
  | .clear => dsLeft (s.grp g).stateTimer + (s.cfg g).minStop
  | .dark | .flash | .prepare | .go => 0

/-- The clearance need N(g). -/
def State.clearanceNeed (s : State) (g : GroupId) : Nat :=
  if (s.grp g).state = .go then 0
  else max (s.ownNeed g) (largest (groupIds.map fun c => s.needTerm c g))

/-- N(g) as the junction status record carries it: 0 where the group is not TRAM (R39). -/
def State.reportedNeed (s : State) (g : GroupId) : Nat :=
  if s.kind g = .tram then s.clearanceNeed g else 0

/-- The slack of a call: s = T − m − N(G) (R75). -/
def State.slack (s : State) (c : Call) : Int := (c.eta : Int) - s.plan.margin - s.clearanceNeed c.group

/-! ## Demand and extension (R157, R159, R160) -/

/-- The groups that are not UNUSED. -/
def State.usedGroups (s : State) : GroupSet := groupSetOf fun g => s.kind g != .unused

/-- Whether a channel gives its substitute: in FAULT with fault substitution (R160). -/
def State.substitutes (s : State) (ch : ChanId) : Bool :=
  s.chans[ch].state == .fault && s.tables.detectors[ch].substitution

/-- Whether a channel that is enabled is OCCUPIED. -/
def State.occupies (s : State) (ch : ChanId) : Bool :=
  s.tables.detectors[ch].enabled && s.chans[ch].state == .occupied

/-- The demand of every group (R157). -/
def State.demandNow (s : State) : GroupSet :=
  s.usedGroups &&& chanIds.foldl
    (fun m ch =>
      if (s.occupies ch && !s.tables.detectors[ch].locking) || s.substitutes ch then m ||| s.tables.detectors[ch].demandSet
      else m)
    s.det.latch

/-- The extension of every group (R159). -/
def State.extensionNow (s : State) : GroupSet :=
  s.usedGroups &&& chanIds.foldl
    (fun m ch =>
      if s.occupies ch || (s.tables.detectors[ch].enabled && s.det.stretch[ch].isSome) || s.substitutes ch then
        m ||| s.tables.detectors[ch].extensionSet
      else m)
    0

/-! ## The green left to a standby step (R131) -/

/-- What one group of the step stage adds to the green left to the step. -/
def State.greenOf (s : State) (g : GroupId) : Nat :=
  if (s.grp g).state = .go then (s.grp g).maxGoInForce - wholeDs (s.grp g).goElapsed else s.planMaxGo g

/-- The green left to the present standby step, as it is carried in a return record. -/
def State.greenLeft (s : State) : Nat :=
  match s.sb.resumed, s.sb.stepGreen with
  | true, some r => dsUp r
  | _, _ =>
    match s.sb.stepStage with
    | some st => largest ((groupsWhere fun g => inSet g (s.stageSet st)).map s.greenOf)
    | none => 0

end Sys2Proof.Machine
end

