-- ==== Sys2Proof/Machine/Operands.lean ====
section
/-! DEFINITION. The operands of the requests: request kinds, results and every code of 11_record_and_frame_formats.md
(11.2, 11.3), the numbers by which groups, channels, outputs, stages, banks and plans are named, the fields of a payload
judged against their ranges (R8, R99, R133, R152, R165, R190, R191, R196), and the same fields as READ_TABLE returns
them (11.4). -/

namespace Sys2Proof.Machine

/-! ## Results and request kinds -/

/-- The results of a request (R187). -/
inductive Result where
  | ok
  | unknownKind
  | badLength
  | notPermitted
  | outOfRange
  | wrongMode
  | notAuthority
  | inUse
  | listFull
  | noSuchCall
  | configInvalid
  deriving DecidableEq, Repr

/-- The code of a result (11.3). -/
def Result.code : Result → Byte
  | .ok => 0
  | .unknownKind => 1
  | .badLength => 2
  | .notPermitted => 3
  | .outOfRange => 4
  | .wrongMode => 5
  | .notAuthority => 6
  | .inUse => 7
  | .listFull => 8
  | .noSuchCall => 9
  | .configInvalid => 10

/-- The request kinds (11.2). -/
inductive RequestKind where
  | switchOn
  | switchFlash
  | switchOff
  | faultReset
  | restart
  | stageDemand
  | refresh
  | selectPlan
  | localReclaim
  | takeControl
  | releaseControl
  | writeGroup
  | writeConflictRow
  | writeStage
  | writeJunction
  | writeOutput
  | writeDetector
  | writeBank
  | writePlan
  | readTable
  | forceOutput
  | readStatus
  | readDetectors
  | readCounts
  | readCalls
  | readEvents
  | clearEvents
  | setEventMask
  | callCheckin
  | callCheckout
  | callCancel
  deriving DecidableEq, Repr

/-- The code of a request kind (11.2). -/
def RequestKind.code : RequestKind → Byte
  | .switchOn => 0x01
  | .switchFlash => 0x02
  | .switchOff => 0x03
  | .faultReset => 0x04
  | .restart => 0x05
  | .stageDemand => 0x06
  | .refresh => 0x07
  | .selectPlan => 0x08
  | .localReclaim => 0x09
  | .takeControl => 0x0A
  | .releaseControl => 0x0B
  | .writeGroup => 0x10
  | .writeConflictRow => 0x11
  | .writeStage => 0x12
  | .writeJunction => 0x13
  | .writeOutput => 0x14
  | .writeDetector => 0x15
  | .writeBank => 0x16
  | .writePlan => 0x17
  | .readTable => 0x18
  | .forceOutput => 0x19
  | .readStatus => 0x20
  | .readDetectors => 0x21
  | .readCounts => 0x22
  | .readCalls => 0x23
  | .readEvents => 0x24
  | .clearEvents => 0x25
  | .setEventMask => 0x26
  | .callCheckin => 0x30
  | .callCheckout => 0x31
  | .callCancel => 0x32

/-- Every request kind, in the order of its code. -/
def requestKinds : List RequestKind :=
  [.switchOn, .switchFlash, .switchOff, .faultReset, .restart, .stageDemand, .refresh, .selectPlan, .localReclaim,
    .takeControl, .releaseControl, .writeGroup, .writeConflictRow, .writeStage, .writeJunction, .writeOutput,
    .writeDetector, .writeBank, .writePlan, .readTable] ++
  [.forceOutput, .readStatus, .readDetectors, .readCounts, .readCalls, .readEvents, .clearEvents, .setEventMask,
    .callCheckin, .callCheckout, .callCancel]

/-- The request kind of a KIND byte; none where it is no request kind of the part (R186). -/
def requestKind? (b : Byte) : Option RequestKind := requestKinds.find? (·.code == b)

/-- The payload length of a request kind (11.2). -/
def RequestKind.payloadLength : RequestKind → Nat
  | .switchOn | .switchFlash | .switchOff | .faultReset | .restart | .refresh | .localReclaim | .takeControl
  | .releaseControl | .readStatus | .readDetectors | .readCalls | .readEvents => 0
  | .stageDemand | .selectPlan | .readCounts => 1
  | .readTable | .forceOutput | .callCheckout | .callCancel => 2
  | .clearEvents | .setEventMask => 4
  | .writeOutput | .writeBank => 5
  | .writeGroup | .writeStage | .callCheckin => 6
  | .writeDetector => 18
  | .writeConflictRow => 25
  | .writeJunction => 51
  | .writePlan => 107

/-- Whether a request is in the list of a port (R186). -/
def RequestKind.listed (k : RequestKind) (p : Port) : Bool :=
  match p, k with
  | .l, .takeControl | .l, .releaseControl | .l, .callCheckin | .l, .callCheckout | .l, .callCancel => false
  | .l, _ => true
  | .c, .takeControl | .c, .releaseControl | .c, .stageDemand | .c, .refresh | .c, .selectPlan | .c, .switchOn
  | .c, .switchFlash | .c, .readStatus | .c, .readDetectors | .c, .readCounts | .c, .readCalls | .c, .readEvents
  | .c, .clearEvents | .c, .setEventMask => true
  | .c, _ => false
  | .t, .callCheckin | .t, .callCheckout | .t, .callCancel | .t, .readCalls | .t, .readStatus | .t, .readEvents
  | .t, .clearEvents | .t, .setEventMask => true
  | .t, _ => false

/-! ## Names of things by number -/

/-- A group named by its number 1 to 24. -/
def groupId? (n : Nat) : Option GroupId := if h : 1 ≤ n ∧ n ≤ 24 then some ⟨n - 1, by omega⟩ else none

/-- A detector channel named by its number 1 to 32. -/
def chanId? (n : Nat) : Option ChanId := if h : 1 ≤ n ∧ n ≤ 32 then some ⟨n - 1, by omega⟩ else none

/-- An output channel named by its number 1 to 72. -/
def outId? (n : Nat) : Option OutId := if h : 1 ≤ n ∧ n ≤ 72 then some ⟨n - 1, by omega⟩ else none

/-- A stage named by its number 0 to 16. -/
def stageId? (n : Nat) : Option StageId := if h : n < 17 then some ⟨n, h⟩ else none

/-- A bank named by its code 0 to 3 (11.3). -/
def bankId? (n : Nat) : Option BankId := if h : n < 4 then some ⟨n, h⟩ else none

/-- A plan named by its number 0 to 3. -/
def planId? (n : Nat) : Option PlanId := if h : n < 4 then some ⟨n, h⟩ else none

/-- A set of groups as it is sent; none where it names a group outside 1 to 24 (R196). -/
def groupSet? (m : BitVec 32) : Option GroupSet := if m.toNat < 2 ^ 24 then some (m.setWidth 24) else none

/-- A set of event kinds as it is sent; none where it names a kind that is not one of the 19 (R196). -/
def eventSet? (m : BitVec 32) : Option (BitVec 19) := if m.toNat < 2 ^ 19 then some (m.setWidth 19) else none

/-- A yes/no field or a clear flag (11.3). -/
def yesNo? : Nat → Option Bool
  | 0 => some false
  | 1 => some true
  | _ => none

/-- The code of a yes/no field (11.3). -/
def yesNoCode (b : Bool) : Nat := if b then 1 else 0

/-! ## Group configuration (R4, R8) -/

/-- The code of a group kind (11.3). -/
def Kind.code : Kind → Nat
  | .unused => 0
  | .vehicle => 1
  | .pedestrian => 2
  | .tram => 3

/-- The group kind of a code. -/
def kind? : Nat → Option Kind
  | 0 => some .unused
  | 1 => some .vehicle
  | 2 => some .pedestrian
  | 3 => some .tram
  | _ => none

/-- Whether the clear time, prepare time and min stop lie in the ranges of a kind (R8, R4). -/
def Kind.timesFit (k : Kind) (clear prepare minStop : Nat) : Bool :=
  match k with
  | .unused => true
  | .vehicle => decide (30 ≤ clear ∧ clear ≤ 60 ∧ prepare ≤ 30 ∧ minStop ≤ 100)
  | .pedestrian => decide (clear ≤ 200 ∧ prepare = 0 ∧ minStop ≤ 100)
  | .tram => decide (20 ≤ clear ∧ clear ≤ 60 ∧ prepare = 0 ∧ minStop ≤ 100)

/-- The configuration part that a WRITE_GROUP stores; none where a field is out of range (R4). -/
def groupConfig? (w : GroupWrite) : Option GroupConfig :=
  match kind? w.kind, yesNo? w.redMonitored with
  | some .unused, some _ =>
    some { kind := .unused, clearTime := 0, prepareTime := 0, minStop := 0, redMonitored := false }
  | some k, some red =>
    if k.timesFit w.clearTime w.prepareTime w.minStop then
      some { kind := k, clearTime := w.clearTime, prepareTime := w.prepareTime, minStop := w.minStop, redMonitored := red }
    else none
  | _, _ => none

/-- A group's configuration part in the layout of the write that stores it (11.4). -/
def GroupConfig.asWrite (c : GroupConfig) (g : GroupId) : GroupWrite :=
  { group := g.val + 1, kind := c.kind.code, clearTime := c.clearTime, prepareTime := c.prepareTime,
    minStop := c.minStop, redMonitored := yesNoCode c.redMonitored }

/-! ## Conflict rows and stages (R25, R26) -/

/-- An entry of a conflict row as it is sent: 0 to 250 an intergreen, 255 no conflict. -/
def conflictEntry (n : Nat) : Option Nat := if n = 255 then none else some n

/-- The code of a matrix entry (11.4). -/
def conflictCode (e : Option Nat) : Nat := e.getD 255

/-- The row that a WRITE_CONFLICT_ROW stores; none where an entry is neither an intergreen nor 255 (R25). -/
def conflictRow? (row : Vector Nat 24) : Option (Vector (Option Nat) 24) :=
  if row.toList.all fun n => decide (n ≤ 250) || n == 255 then some (row.map conflictEntry) else none

/-- What a WRITE_STAGE stores: "not configured" where the mark is no, and the set is then ignored (R26, R196). The outer
none: out of range. -/
def stageEntry? (mark : Nat) (set : BitVec 32) : Option (Option GroupSet) :=
  match yesNo? mark with
  | some false => some none
  | some true => (groupSet? set).map some
  | none => none

/-! ## The junction record (R99, R190) -/

/-- The code of a central permission (11.3). -/
def Permission.code : Permission → Nat
  | .none => 0
  | .demand => 1
  | .full => 2

/-- The central permission of a code. -/
def permission? : Nat → Option Permission
  | 0 => some .none
  | 1 => some .demand
  | 2 => some .full
  | _ => none

/-- The stage of a number already known to lie from 0 to 16. -/
def stageOf (n : Nat) : StageId := Fin.ofNat 17 n

/-- Whether every stage field and time of a WRITE_JUNCTION but the permission lies in its range (R190). -/
def junctionFits (w : JunctionWrite) : Bool :=
  decide (w.startStage ≤ 16) && decide (w.restStage ≤ 16) && (w.priority.toList.all fun n => decide (n ≤ 16)) &&
    decide (w.seqLength ≤ 16) && ((w.seq.toList.take w.seqLength).all fun n => decide (n ≤ 16)) &&
    decide (10 ≤ w.localTime ∧ w.localTime ≤ 100) && decide (10 ≤ w.centralPeriod ∧ w.centralPeriod ≤ 600) &&
    decide (30 ≤ w.startupRed ∧ w.startupRed ≤ 100) && decide (30 ≤ w.closingRed ∧ w.closingRed ≤ 100) &&
    decide (w.standbyPlan ≤ 3) && decide (w.flasherRate = 40 ∨ w.flasherRate = 50 ∨ w.flasherRate = 60)

/-- The junction record that a WRITE_JUNCTION stores; none where a field is out of range (R190). -/
def junctionRecord? (w : JunctionWrite) : Option Junction :=
  match permission? w.permission with
  | some perm =>
    if junctionFits w then
      some
        { startStage := stageOf w.startStage, restStage := stageOf w.restStage, priority := w.priority.map stageOf,
          sequence := (w.seq.toList.take w.seqLength).map stageOf, permission := perm, localTime := w.localTime,
          centralPeriod := w.centralPeriod, startupRed := w.startupRed, closingRed := w.closingRed,
          standbyPlan := Fin.ofNat 4 w.standbyPlan, flasherRate := w.flasherRate }
    else none
  | none => none

/-- The junction record in the layout of the write that stores it (11.4); the entries after the sequence are 0 (R196). -/
def Junction.asWrite (j : Junction) : JunctionWrite :=
  { startStage := j.startStage.val, restStage := j.restStage.val, priority := j.priority.map (·.val),
    seqLength := j.sequence.length, seq := Vector.ofFn fun i : Fin 16 => (j.sequence.map (·.val)).getD i.val 0,
    permission := j.permission.code, localTime := j.localTime, centralPeriod := j.centralPeriod,
    startupRed := j.startupRed, closingRed := j.closingRed, standbyPlan := j.standbyPlan.val,
    flasherRate := j.flasherRate }

/-- Whether the fields that R28 holds to the mode are equal: the stage fields and the standby sequence (R190). -/
def Junction.sameStages (a b : Junction) : Bool :=
  a.startStage == b.startStage && a.restStage == b.restStage && a.priority == b.priority && a.sequence == b.sequence

/-! ## Output channels (R165, R166, R169) -/

/-- The code of a lamp role (11.3). -/
def Role.code : Role → Nat
  | .stop => 0
  | .warn => 1
  | .go => 2

/-- The lamp role of a code. -/
def role? : Nat → Option Role
  | 0 => some .stop
  | 1 => some .warn
  | 2 => some .go
  | _ => none

/-- The code of a source's kind (11.3). -/
def Source.code : Source → Nat
  | .off => 0
  | .on => 1
  | .groupRole _ _ => 2
  | .flasherA => 3
  | .flasherB => 4
  | .callAck _ => 5
  | .detector _ => 6

/-- The group or detector channel byte of a source; 0 where it takes none (R196). -/
def Source.arg : Source → Nat
  | .groupRole g _ => g.val + 1
  | .callAck g => g.val + 1
  | .detector ch => ch.val + 1
  | .off | .on | .flasherA | .flasherB => 0

/-- The role byte of a source; 0 where it takes none (R196). -/
def Source.roleCode : Source → Nat
  | .groupRole _ r => r.code
  | .off | .on | .flasherA | .flasherB | .callAck _ | .detector _ => 0

/-- The source that a kind, an argument byte and a role byte give; a byte that the kind does not use is ignored (R196). -/
def source? (kind arg role : Nat) : Option Source :=
  match kind with
  | 0 => some .off
  | 1 => some .on
  | 2 =>
    match groupId? arg, role? role with
    | some g, some r => some (.groupRole g r)
    | _, _ => none
  | 3 => some .flasherA
  | 4 => some .flasherB
  | 5 => (groupId? arg).map .callAck
  | 6 => (chanId? arg).map .detector
  | _ => none

/-- The record that a WRITE_OUTPUT stores; none where a field is out of range (R166). -/
def outputConfig? (w : OutputWrite) : Option OutputConfig :=
  match source? w.source w.arg w.role, yesNo? w.polarity with
  | some src, some inv => some { source := src, inverted := inv }
  | _, _ => none

/-- An output channel record in the layout of the write that stores it (11.4). -/
def OutputConfig.asWrite (c : OutputConfig) (o : OutId) : OutputWrite :=
  { channel := o.val + 1, source := c.source.code, arg := c.source.arg, role := c.source.roleCode,
    polarity := yesNoCode c.inverted }

/-- The force of a code (11.3). The outer none: out of range. -/
def force? : Nat → Option (Option Bool)
  | 0 => some none
  | 1 => some (some true)
  | 2 => some (some false)
  | _ => none

/-- The code of a force (11.3). -/
def forceCode : Option Bool → Nat
  | none => 0
  | some true => 1
  | some false => 2

/-- The code of a lit value (11.3); both phases read as flashing. -/
def Lit.code : Lit → Nat
  | .off => 0
  | .on => 1
  | .flashA | .flashB => 2

/-- The code of a proving status (11.3). -/
def Proving.code : Proving → Nat
  | .notProven => 0
  | .proven => 1
  | .lampOut => 2
  | .leak => 3

/-! ## Detector assignments (R152, R153) -/

/-- The configuration fields and the stretch that a WRITE_DETECTOR stores; none where a field, the live ones included, is
out of range (R153). -/
def detectorConfig? (w : DetectorWrite) : Option DetectorConfig :=
  match yesNo? w.enabled, groupSet? w.demandSet, groupSet? w.extensionSet, yesNo? w.demandType, yesNo? w.activity,
    yesNo? w.substitution with
  | some en, some dem, some ext, some lock, some act, some sub =>
    if w.stretch ≤ 100 ∧ (20 ≤ w.sensitivity ∧ w.sensitivity ≤ 20000) ∧
        (w.presence = 0 ∨ (10 ≤ w.presence ∧ w.presence ≤ 3600)) then
      some
        { enabled := en, demandSet := dem, extensionSet := ext, locking := lock, activity := act, substitution := sub,
          stretch := w.stretch }
    else none
  | _, _, _, _, _, _ => none

/-- A detector assignment record, with its channel's live fields, in the layout of the write that stores it (11.4). -/
def DetectorConfig.asWrite (d : DetectorConfig) (ch : ChanId) (sensitivity presence : Nat) : DetectorWrite :=
  { channel := ch.val + 1, enabled := yesNoCode d.enabled, demandSet := d.demandSet.setWidth 32,
    extensionSet := d.extensionSet.setWidth 32, demandType := yesNoCode d.locking, activity := yesNoCode d.activity,
    substitution := yesNoCode d.substitution, stretch := d.stretch, sensitivity := sensitivity, presence := presence }

/-- Whether the configuration fields, which R28 holds to the mode, are equal; the stretch is a live field (R152, R153). -/
def DetectorConfig.sameConfig (a b : DetectorConfig) : Bool :=
  a.enabled == b.enabled && a.demandSet == b.demandSet && a.extensionSet == b.extensionSet && a.locking == b.locking &&
    a.activity == b.activity && a.substitution == b.substitution

/-! ## Banks (R134) and plans (R191) -/

/-- The code of a bank mode (11.3). -/
def BankMode.code : BankMode → Nat
  | .loop => 0
  | .contact => 1

/-- The bank mode of a code. -/
def bankMode? : Nat → Option BankMode
  | 0 => some .loop
  | 1 => some .contact
  | _ => none

/-- The record that a WRITE_BANK stores; none where a field is out of range (R134). -/
def bankConfig? (w : BankWrite) : Option BankConfig :=
  match bankMode? w.mode with
  | some m =>
    if (w.nc = 256 ∨ w.nc = 512 ∨ w.nc = 1024) ∧ (1 ≤ w.k ∧ w.k ≤ 4) then some { mode := m, nc := w.nc, k := w.k }
    else none
  | none => none

/-- A bank record in the layout of the write that stores it (11.4). -/
def BankConfig.asWrite (c : BankConfig) (b : BankId) : BankWrite :=
  { bank := b.val, mode := c.mode.code, nc := c.nc, k := c.k }

/-- Whether the fields of a WRITE_PLAN lie in their ranges (R191). -/
def planFits (w : PlanWrite) : Bool :=
  (groupIds.all fun g : Fin 24 =>
    decide (30 ≤ w.minGo[g] ∧ w.minGo[g] ≤ 600 ∧ w.minGo[g] ≤ w.maxGo[g] ∧ w.maxGo[g] ≤ 1800)) &&
    decide (w.margin ≤ 100) && decide (10 ≤ w.passage ∧ w.passage ≤ 100) && decide (w.maxExt ≤ 300) &&
    decide (w.recovery ≤ 1200) && decide (100 ≤ w.callTimeout ∧ w.callTimeout ≤ 3000) &&
    decide (w.restDelay = 0 ∨ (50 ≤ w.restDelay ∧ w.restDelay ≤ 6000))

/-- The plan record that a WRITE_PLAN carries. -/
def planRecord (w : PlanWrite) : Plan :=
  { minGo := w.minGo, maxGo := w.maxGo, margin := w.margin, passage := w.passage, maxExt := w.maxExt,
    recovery := w.recovery, callTimeout := w.callTimeout, restDelay := w.restDelay }

/-- A plan record in the layout of the write that stores it (11.4). -/
def Plan.asWrite (c : Plan) (n : PlanId) : PlanWrite :=
  { plan := n.val, minGo := c.minGo, maxGo := c.maxGo, margin := c.margin, passage := c.passage, maxExt := c.maxExt,
    recovery := c.recovery, callTimeout := c.callTimeout, restDelay := c.restDelay }

/-! ## Tables (R189) and running values (11.3) -/

/-- An entry that READ_TABLE names (R189). -/
inductive TableEntry where
  | group (g : GroupId)
  | conflictRow (c : GroupId)
  | stage (st : StageId)
  | junction
  | output (o : OutId)
  | detector (ch : ChanId)
  | bank (b : BankId)
  | plan (n : PlanId)
  deriving DecidableEq, Repr

/-- The entry that a table code and an index name; none out of range. The index is ignored for JUNCTION (R189, R196). -/
def tableEntry? (table index : Nat) : Option TableEntry :=
  match table with
  | 0 => (groupId? index).map .group
  | 1 => (groupId? index).map .conflictRow
  | 2 => (stageId? index).map .stage
  | 3 => some .junction
  | 4 => (outId? index).map .output
  | 5 => (chanId? index).map .detector
  | 6 => (bankId? index).map .bank
  | 7 => (planId? index).map .plan
  | _ => none

/-- The code of a group state (11.3). -/
def GroupState.code : GroupState → Nat
  | .dark => 0
  | .flash => 1
  | .stop => 2
  | .prepare => 3
  | .go => 4
  | .clear => 5

/-- The code of a call state (11.3). -/
def CallState.code : CallState → Nat
  | .waiting => 0
  | .natural => 1
  | .blocked => 2
  | .early => 3
  | .extend => 4
  | .suspended => 5

/-- The code of a channel state (11.3). -/
def ChanState.code : ChanState → Nat
  | .disabled => 0
  | .untuned => 1
  | .vacant => 2
  | .occupied => 3
  | .fault => 4

/-- The code of a fault class; 0 where it is absent (11.3, R196). -/
def faultCode : Option FaultClass → Nat
  | none => 0
  | some .openLoop => 1
  | some .shortLoop => 2
  | some .jump => 3
  | some .stuck => 4

end Sys2Proof.Machine
end

