-- ==== Sys2Proof/Machine/Records.lean ====
section
/-! DEFINITION. The layouts of 11_record_and_frame_formats.md: bytes and multi-byte fields (R195), the payload of each
request that carries one, written and read back (11.2, 11.4, 11.5), and the running records of the responses (11.5,
R197). -/

namespace Sys2Proof.Machine

/-! ## Bytes and fields (R195) -/

/-- A field of one byte. -/
def byte (n : Nat) : Byte := BitVec.ofNat 8 n

/-- A field of two bytes, least significant first. -/
def le2 (n : Nat) : List Byte := [byte n, byte (n / 256)]

/-- A field of four bytes, least significant first. -/
def le4 (n : Nat) : List Byte := [byte n, byte (n / 256), byte (n / 65536), byte (n / 16777216)]

/-- The byte at an offset of a payload, as a number. -/
def u8 (bs : List Byte) (i : Nat) : Nat := (bs.getD i 0).toNat

/-- The two-byte field at an offset of a payload. -/
def u16 (bs : List Byte) (i : Nat) : Nat := u8 bs i + 256 * u8 bs (i + 1)

/-- The four-byte group set or event set at an offset of a payload. -/
def set32 (bs : List Byte) (i : Nat) : BitVec 32 := BitVec.ofNat 32 (u16 bs i + 65536 * u16 bs (i + 2))

/-- A time or timer of two bytes: 0xFFFF where it is absent (R196). -/
def timeField (t : Option Nat) : List Byte := le2 (t.getD 0xFFFF)

/-! ## Payloads of requests (11.2, 11.4, 11.5) -/

/-- The payload of a WRITE_GROUP. -/
def groupPayload (w : GroupWrite) : List Byte :=
  [byte w.group, byte w.kind, byte w.clearTime, byte w.prepareTime, byte w.minStop, byte w.redMonitored]

/-- A WRITE_GROUP read from its payload. -/
def readGroupWrite (bs : List Byte) : GroupWrite :=
  { group := u8 bs 0, kind := u8 bs 1, clearTime := u8 bs 2, prepareTime := u8 bs 3, minStop := u8 bs 4,
    redMonitored := u8 bs 5 }

/-- The payload of a WRITE_CONFLICT_ROW. -/
def conflictPayload (group : Nat) (row : Vector Nat 24) : List Byte := byte group :: row.toList.map byte

/-- The row of a WRITE_CONFLICT_ROW read from its payload. -/
def readConflictRow (bs : List Byte) : Vector Nat 24 := Vector.ofFn fun i : Fin 24 => u8 bs (1 + i.val)

/-- The payload of a WRITE_STAGE. -/
def stagePayload (stage mark : Nat) (set : BitVec 32) : List Byte := byte stage :: byte mark :: le4 set.toNat

/-- The payload of a WRITE_JUNCTION. -/
def junctionPayload (w : JunctionWrite) : List Byte :=
  [byte w.startStage, byte w.restStage] ++ w.priority.toList.map byte ++ [byte w.seqLength] ++ w.seq.toList.map byte ++
    [byte w.permission, byte w.localTime] ++ le2 w.centralPeriod ++
    [byte w.startupRed, byte w.closingRed, byte w.standbyPlan, byte w.flasherRate]

/-- A WRITE_JUNCTION read from its payload. -/
def readJunctionWrite (bs : List Byte) : JunctionWrite :=
  { startStage := u8 bs 0, restStage := u8 bs 1, priority := Vector.ofFn fun i : Fin 24 => u8 bs (2 + i.val),
    seqLength := u8 bs 26, seq := Vector.ofFn fun i : Fin 16 => u8 bs (27 + i.val), permission := u8 bs 43,
    localTime := u8 bs 44, centralPeriod := u16 bs 45, startupRed := u8 bs 47, closingRed := u8 bs 48,
    standbyPlan := u8 bs 49, flasherRate := u8 bs 50 }

/-- The payload of a WRITE_OUTPUT. -/
def outputPayload (w : OutputWrite) : List Byte :=
  [byte w.channel, byte w.source, byte w.arg, byte w.role, byte w.polarity]

/-- A WRITE_OUTPUT read from its payload. -/
def readOutputWrite (bs : List Byte) : OutputWrite :=
  { channel := u8 bs 0, source := u8 bs 1, arg := u8 bs 2, role := u8 bs 3, polarity := u8 bs 4 }

/-- The payload of a WRITE_DETECTOR. -/
def detectorPayload (w : DetectorWrite) : List Byte :=
  [byte w.channel, byte w.enabled] ++ le4 w.demandSet.toNat ++ le4 w.extensionSet.toNat ++
    [byte w.demandType, byte w.activity, byte w.substitution, byte w.stretch] ++ le2 w.sensitivity ++ le2 w.presence

/-- A WRITE_DETECTOR read from its payload. -/
def readDetectorWrite (bs : List Byte) : DetectorWrite :=
  { channel := u8 bs 0, enabled := u8 bs 1, demandSet := set32 bs 2, extensionSet := set32 bs 6, demandType := u8 bs 10,
    activity := u8 bs 11, substitution := u8 bs 12, stretch := u8 bs 13, sensitivity := u16 bs 14,
    presence := u16 bs 16 }

/-- The payload of a WRITE_BANK. -/
def bankPayload (w : BankWrite) : List Byte := [byte w.bank, byte w.mode] ++ le2 w.nc ++ [byte w.k]

/-- A WRITE_BANK read from its payload. -/
def readBankWrite (bs : List Byte) : BankWrite :=
  { bank := u8 bs 0, mode := u8 bs 1, nc := u16 bs 2, k := u8 bs 4 }

/-- The payload of a WRITE_PLAN: the min go and the max go of a group stand together (11.4). -/
def planPayload (w : PlanWrite) : List Byte :=
  byte w.plan :: (groupIds.flatMap fun g : Fin 24 => le2 w.minGo[g] ++ le2 w.maxGo[g]) ++
    ([byte w.margin, byte w.passage] ++ le2 w.maxExt ++ le2 w.recovery ++ le2 w.callTimeout ++ le2 w.restDelay)

/-- A WRITE_PLAN read from its payload. -/
def readPlanWrite (bs : List Byte) : PlanWrite :=
  { plan := u8 bs 0, minGo := Vector.ofFn fun i : Fin 24 => u16 bs (1 + 4 * i.val),
    maxGo := Vector.ofFn fun i : Fin 24 => u16 bs (3 + 4 * i.val), margin := u8 bs 97, passage := u8 bs 98,
    maxExt := u16 bs 99, recovery := u16 bs 101, callTimeout := u16 bs 103, restDelay := u16 bs 105 }

/-- The payload of a CALL_CHECKIN. -/
def checkinPayload (w : Checkin) : List Byte := le2 w.tram ++ [byte w.group, byte w.cls] ++ le2 w.travel

/-- A CALL_CHECKIN read from its payload. -/
def readCheckin (bs : List Byte) : Checkin :=
  { tram := u16 bs 0, group := u8 bs 2, cls := u8 bs 3, travel := u16 bs 4 }

/-! ## Contents of the responses of READ_TABLE (R189) -/

/-- The entry as stored, in the layout of the write that stores it (11.4); STAGE 0 is configured and empty. The set of a
stage that is not configured reads as 0 beside the mark 0 (DESIGN CHOICE, notes/assumptions/33.md). -/
def State.tableContent (s : State) : TableEntry → List Byte
  | .group g => groupPayload ((s.cfg g).asWrite g)
  | .conflictRow c => conflictPayload (c.val + 1) (s.tables.matrix[c].map conflictCode)
  | .stage st =>
    match s.tables.stage st with
    | some set => stagePayload st.val 1 (set.setWidth 32)
    | none => stagePayload st.val 0 0
  | .junction => junctionPayload s.tables.junction.asWrite
  | .output o =>
    outputPayload (s.tables.outputs[o].asWrite o) ++
      [byte (forceCode s.out.force[o]), byte s.out.lit[o].code, byte s.lm.lamps[o].status.code]
  | .detector ch =>
    detectorPayload (s.tables.detectors[ch].asWrite ch s.chans[ch].sensitivity s.chans[ch].presence)
  | .bank b => bankPayload (s.tables.banks[b].asWrite b)
  | .plan n => planPayload (s.tables.plans[n].asWrite n)

/-! ## Running records (11.5) -/

/-- The junction status record (R188). -/
def State.statusContent (s : State) : List Byte :=
  [byte s.mc.mode.code, byte s.mc.mode.authority, byte s.mc.startCause.code, byte s.arb.current.val,
    byte s.arb.target.val, byte (yesNoCode (!s.arb.stable)), byte s.mc.activePlan.val, byte s.mc.pendingPlan.val,
    byte s.straps.junction.val] ++
    (groupIds.map fun g => byte (s.grp g).state.code) ++ le4 s.det.demand.toNat ++ le4 s.det.extension.toNat ++
    [byte s.pu.calls.length, byte s.pu.stack.length] ++ groupIds.flatMap fun g => le2 (s.reportedNeed g)

/-- A point on the time base as the ds that remain until it (R97). -/
def State.remaining (s : State) (t : Option Nat) : Option Nat := t.map fun n => dsUp (n - s.now)

/-- A call record as it is reported, 19 bytes (R97). -/
def State.callContent (s : State) (c : Call) : List Byte :=
  le2 c.tram ++ [byte (c.group.val + 1), byte c.cls] ++ le2 c.travel ++ le2 (wholeDs c.elapsed) ++ le2 c.eta ++ le2 c.stamp ++
    [byte c.state.code] ++ timeField (c.actionTimer.map dsUp) ++ timeField (s.remaining c.extensionLimit) ++
    timeField (s.remaining c.serviceEnd)

/-- The content of a READ_CALLS response: the header and each call in list order (R97). The recovery remaining is 0 while
the timer is idle (R196). -/
def State.callsContent (s : State) : List Byte :=
  [byte s.pu.calls.length, byte s.pu.stack.length] ++ le2 (dsLeft s.pu.recovery) ++ s.pu.calls.flatMap s.callContent

/-- A detector channel record, 14 bytes (R151); last d is signed, in two's complement (R195). -/
def State.channelContent (s : State) (ch : ChanId) : List Byte :=
  let c := s.chans[ch]
  [byte c.state.code, byte (faultCode c.fault)] ++ le4 (c.baseline.getD 0) ++ le4 (BitVec.ofInt 32 c.lastD).toNat ++
    le2 s.det.count[ch] ++ le2 s.det.total[ch]

/-- The channels of one segment of a READ_DETECTORS response: 12 to a segment (R197). -/
def segmentChannels (n : Nat) : List ChanId := (chanIds.drop (n * Config.segmentRecords)).take Config.segmentRecords

/-- The contents of the three segments of a READ_DETECTORS response: number, last-segment mark, records (R197). -/
def State.detectorSegments (s : State) : List (List Byte) :=
  (List.range 3).map fun n =>
    [byte n, byte (yesNoCode (n == 2))] ++ (segmentChannels n).flatMap s.channelContent

/-- The content of a READ_COUNTS response (R162). -/
def State.countsContent (s : State) : List Byte :=
  chanIds.flatMap fun ch => le2 s.det.count[ch] ++ le2 s.det.total[ch]

/-- The content of a READ_EVENTS response: flags, details, mask (R193). -/
def PortRecord.eventsContent (r : PortRecord) : List Byte :=
  le4 r.flags.toNat ++ r.details.toList.flatMap le2 ++ le4 r.mask.toNat

end Sys2Proof.Machine
end

