-- ==== Sys2Proof/Machine/Outputs.lean ====
section
/-! DEFINITION. The Output Unit and the Lamp Monitor (09_lamp_outputs_and_proving.md): lit values and the drive chain,
drive changes, proving, the conflict monitor and red-out. -/

namespace Sys2Proof.Machine

/-! ## Lit values (R6, R167) -/

/-- What a lamp role of a group of a kind shows in a state (R6). -/
def aspect : Kind → GroupState → Role → Lit
  | .vehicle, .flash, .warn => .flashA
  | .vehicle, .stop, .stop => .on
  | .vehicle, .prepare, .stop => .on
  | .vehicle, .prepare, .warn => .on
  | .vehicle, .go, .go => .on
  | .vehicle, .clear, .warn => .on
  | .pedestrian, .stop, .stop => .on
  | .pedestrian, .go, .go => .on
  | .pedestrian, .clear, .go => .flashA
  | .tram, .stop, .stop => .on
  | .tram, .go, .go => .on
  | .tram, .clear, .warn => .on
  | _, _, _ => .off

/-- The lit value that a source gives (R167). -/
def State.sourceLit (s : State) : Source → Lit
  | .off => .off
  | .on => .on
  | .groupRole g r => aspect (s.kind g) (s.grp g).state r
  | .flasherA => .flashA
  | .flasherB => .flashB
  | .callAck g => if s.pu.calls.any (·.group == g) then .on else .off
  | .detector ch => if s.chans[ch].state = .occupied then .on else .off

/-- The lit value of a channel formed anew: its force where present, else its source (R167). -/
def State.formLit (s : State) (o : OutId) : Lit :=
  match s.out.force[o] with
  | some true => .on
  | some false => .off
  | none => s.sourceLit s.tables.outputs[o].source

/-- Whether a lit value is steady (R171). -/
def Lit.steady : Lit → Bool
  | .on | .off => true
  | .flashA | .flashB => false

/-- Whether a channel of this lit value is lit at the flasher's present phase (R167). -/
def Lit.lit (l : Lit) (phaseA : Bool) : Bool :=
  match l with
  | .off => false
  | .on => true
  | .flashA => phaseA
  | .flashB => !phaseA

/-- The level of a channel's position of the lamp drive chain; polarity INVERTED inverts it (R167). -/
def State.driveLevel (s : State) (o : OutId) : Bool :=
  xor (s.out.lit[o].lit s.out.phaseA) s.tables.outputs[o].inverted

/-- One channel's level loaded onto the drive chain (R167). -/
def State.loadChannel (s : State) (o : OutId) : State :=
  { s with
    out := { s.out with
      chain := if s.driveLevel o then s.out.chain ||| BitVec.twoPow 72 o.val
               else s.out.chain &&& ~~~(BitVec.twoPow 72 o.val) } }

/-- Every channel's level loaded onto the drive chain, as at a change of flasher phase (R167, R168). -/
def State.loadChain (s : State) : State :=
  { s with
    out := { s.out with
      chain := outIds.foldl (fun m o => if s.driveLevel o then m ||| BitVec.twoPow 72 o.val else m) 0 } }

/-- The proving state of a channel at a drive change to a lit value (R171). -/
def Lamp.driven (l : Lamp) (lit : Lit) (now : Nat) : Lamp :=
  { status := if lit.steady then l.status else .notProven, matchRun := 0, mismatch := none, lastChange := now }

/-- Whether a proving status is LAMP_OUT or LEAK. -/
def Proving.bad : Proving → Bool
  | .lampOut | .leak => true
  | .notProven | .proven => false

/-- A drive change of a channel (R167, R171): the new lit value is loaded, the runs restart, and a change to flashing
makes the status NOT_PROVEN, with LAMP where it was LAMP_OUT or LEAK. -/
def State.driveChange (s : State) (o : OutId) (lit : Lit) : State :=
  let old := s.lm.lamps[o]
  let s := { s with
    out := { s.out with lit := s.out.lit.set o lit }
    lm := { s.lm with lamps := s.lm.lamps.set o (old.driven lit s.now) } }
  let s := s.loadChannel o
  if !lit.steady && old.status.bad then s.post .lamp (o.val + 1) else s

/-- One channel's lit value formed anew; a different one is a drive change (R167). -/
def State.refreshOutput (s : State) (o : OutId) : State :=
  if s.formLit o = s.out.lit[o] then s else s.driveChange o (s.formLit o)

/-- The lit value of every channel formed anew, at an event that can change one (R167). The channels are taken in ascending
order, so where several faulty lamps are driven to flashing at one moment the highest is the detail of LAMP (R171; the order
is a DESIGN CHOICE, notes/assumptions/28.md). -/
def State.refreshOutputs (s : State) : State := outIds.foldl State.refreshOutput s

/-! ## Red-out (R175, R176) -/

/-- The STOP-role channels of a group (R165). -/
def State.stopChannels (s : State) (g : GroupId) : List OutId :=
  outIds.filter fun o => s.tables.outputs[o].source == .groupRole g .stop

/-- The conditions under which the red-out flag of a group is set (R175). -/
def State.redLost (s : State) (g : GroupId) : Bool :=
  (s.cfg g).redMonitored && s.kind g != .unused && (s.grp g).state == .stop &&
    !(s.stopChannels g).isEmpty && (s.stopChannels g).all fun o => s.lm.lamps[o].status == .lampOut

/-- The red-out flag of a group judged; a judgement that sets it posts RED_OUT and reports (R175). -/
def State.judgeRedOut (s : State) (g : GroupId) : State :=
  let lost := s.redLost g
  let had := inSet g s.lm.redOut
  let s := { s with lm := { s.lm with redOut := setGroupBit s.lm.redOut g lost } }
  if lost && !had then (s.post .redOut (g.val + 1)).report (.redOut g) else s

/-- Every red-out flag that is set reported again, at an entry to a signal control mode (R176). The groups are taken in
ascending order, so the highest is the detail of RED_OUT (DESIGN CHOICE, notes/assumptions/28.md). -/
def State.repeatRedOut (s : State) : State :=
  (groupsWhere fun g => inSet g s.lm.redOut).foldl (fun s g => (s.post .redOut (g.val + 1)).report (.redOut g)) s

/-! ## Proving (R171, R172) -/

/-- A proving status given by a full run, with its LAMP event and the red-out judgement it causes (R172). The judgement reads
the other channels as they stand then, those of the sample that are still to come with the status they had before it (R175;
DESIGN CHOICE, notes/assumptions/35.md). -/
def State.giveStatus (s : State) (o : OutId) (new : Proving) : State :=
  let old := s.lm.lamps[o].status
  let s := { s with lm := { s.lm with lamps := s.lm.lamps.set o { s.lm.lamps[o] with status := new } } }
  if old = new then s
  else
    let s := if new.bad || old.bad then s.post .lamp (o.val + 1) else s
    match s.tables.outputs[o].source with
    | .groupRole g .stop => s.judgeRedOut g
    | _ => s

/-- Whether a sample is comparable for a channel (R171). -/
def State.comparable (s : State) (o : OutId) : Bool :=
  s.out.lit[o].steady && decide (s.lm.lamps[o].lastChange + Config.provingSettle ≤ s.now)

/-- The state with one channel's proving runs replaced. -/
def State.setRuns (s : State) (o : OutId) (matchRun : Nat) (mismatch : Option (Mismatch × Nat)) : State :=
  { s with
    lm := { s.lm with lamps := s.lm.lamps.set o { s.lm.lamps[o] with matchRun := matchRun, mismatch := mismatch } } }

/-- The count of a mismatch run advanced by one mismatch of a kind (R172). -/
def mismatchCount (run : Option (Mismatch × Nat)) (kind : Mismatch) : Nat :=
  match run with
  | some (k, n) => if k = kind then n + 1 else 1
  | none => 1

/-- A comparable sample of one channel judged against its lit value (R172). -/
def State.prove (s : State) (o : OutId) (sensed : Bool) : State :=
  if !s.comparable o then s
  else
    let lamp := s.lm.lamps[o]
    let lit := s.out.lit[o] == .on
    if lit == sensed then
      if lamp.matchRun + 1 ≥ 3 then (s.setRuns o 0 none).giveStatus o .proven
      else s.setRuns o (lamp.matchRun + 1) none
    else
      let kind := if lit then Mismatch.onNotSensed else Mismatch.offSensed
      let n := mismatchCount lamp.mismatch kind
      if n ≥ 3 then (s.setRuns o 0 none).giveStatus o (if lit then .lampOut else .leak)
      else s.setRuns o 0 (some (kind, n))

/-- What the sense inputs' levels say of a channel, read through its polarity (R167, R171). -/
def State.sensedOn (s : State) (levels : BitVec 72) (o : OutId) : Bool :=
  xor (levels.getLsbD o.val) s.tables.outputs[o].inverted

/-! ## Conflict monitor (R173) -/

/-- Whether a group shows a go aspect in a sample: one of its GO-role channels is sensed on. -/
def State.showsGo (s : State) (levels : BitVec 72) (g : GroupId) : Bool :=
  outIds.any fun o => s.tables.outputs[o].source == .groupRole g .go && s.sensedOn levels o

/-- The first pair of groups in ascending order that conflict in either direction, of those in a list. -/
def State.firstPair (s : State) : List GroupId → Option (GroupId × GroupId)
  | [] => none
  | c :: rest =>
    match rest.find? fun g => s.conflictsEither c g with
    | some g => some (c, g)
    | none => s.firstPair rest

/-- The groups that show a go aspect in a sample, in ascending order. -/
def State.goShown (s : State) (levels : BitVec 72) : List GroupId := groupsWhere (s.showsGo levels)

/-- The conflict monitor's judgement of a sample (R173). -/
def State.monitorConflict (s : State) (levels : BitVec 72) : State :=
  match s.firstPair (s.goShown levels) with
  | none => { s with lm := { s.lm with conflictRun := 0, latestConflict := false } }
  | some (c, _) =>
    let run := s.lm.conflictRun
    let s := { s with lm := { s.lm with conflictRun := min (run + 1) 2, latestConflict := true } }
    if run = 1 then (s.post .conflict (c.val + 1)).report .conflictFault else s

end Sys2Proof.Machine
end

