-- ==== Sys2Proof/Machine/Detectors.lean ====
section
/-! DEFINITION. Detector Logic (08_demands_extensions_and_counts.md): what a change of channel state does to the latches,
stretch timers, counts and activity, and the judging of demand and extension. -/

namespace Sys2Proof.Machine

/-- Demand and extension judged afresh; a change of either is reported to the Standby Unit (R157, R159). Where one channel
event changes both, of one group or of several, both are given first and one report is made of them, so the standby step
is judged once, on both (R127; DESIGN CHOICE, notes/assumptions/30.md). -/
def State.judgeDemand (s : State) : State :=
  let d := s.demandNow
  let e := s.extensionNow
  if d = s.det.demand ∧ e = s.det.extension then s
  else ({ s with det := { s.det with demand := d, extension := e } }).report .judgeStep

/-- The locking demand latch of a group cleared, and its demand judged (R156). -/
def State.clearLatch (s : State) (g : GroupId) : State :=
  ({ s with det := { s.det with latch := setGroupBit s.det.latch g false } }).judgeDemand

/-- An activity event at the Standby Unit: taken in STANDBY, ignored in other modes (R128, R163). -/
def State.activity (s : State) : State :=
  if s.mc.mode = .standby then { s with sb := { s.sb with restElapsed := 0 } } else s

/-- The groups whose latch a LOCKING channel sets when it enters OCCUPIED: those of its demand set that are neither in GO
nor UNUSED (R156). -/
def State.latchedBy (s : State) (ch : ChanId) : GroupSet :=
  s.tables.detectors[ch].demandSet &&& groupSetOf fun g => (s.grp g).state != .go && s.kind g != .unused

/-- A channel's entry to OCCUPIED: its count rises and a spell begins (R161, R1), a LOCKING channel sets latches (R156), a participating channel
gives an activity event (R163). -/
def State.enterOccupied (s : State) (ch : ChanId) : State :=
  let d := s.tables.detectors[ch]
  let s := { s with
    det := { s.det with
      count := s.det.count.set ch (rise 1 s.det.count[ch])
      spell := s.det.spell.set ch 0
      latch := if d.enabled && d.locking then s.det.latch ||| s.latchedBy ch else s.det.latch } }
  if d.enabled && d.activity then s.activity else s

/-- The stretch timer of a channel after a change of its state (R158); `restarted` where a bank write or a write of its
enabled field restarted it. -/
def stretchAfter (old new : ChanState) (restarted : Bool) (stretch : Nat) (timer : Option Nat) : Option Nat :=
  if restarted then none
  else
    match old, new with
    | .occupied, .vacant => startedTimer stretch
    | _, .occupied => none
    | _, .fault => none
    | _, .disabled => none
    | _, _ => timer

/-- A channel measurement record replaced. A measurement or sample that changes no state is not reported. A change of state,
or a restart, is reported to Detector Logic at that moment (R150, R158), and the channels that show it are lit anew
(R167). -/
def State.setChannel (s : State) (ch : ChanId) (c : Channel) (restarted : Bool) : State :=
  let old := s.chans[ch].state
  let s := { s with chans := s.chans.set ch c }
  if old = c.state ∧ restarted = false then s
  else
    let timer := stretchAfter old c.state restarted s.tables.detectors[ch].stretch s.det.stretch[ch]
    let s := { s with det := { s.det with stretch := s.det.stretch.set ch timer } }
    let s := if c.state = .occupied ∧ old ≠ .occupied then s.enterOccupied ch else s
    s.judgeDemand.refreshOutputs

end Sys2Proof.Machine
end

