-- ==== Sys2Proof/Machine/Arbiter.lean ====
section
/-! DEFINITION. The Right-of-Way Arbiter (03_stage_transitions_and_the_right_of_way_arbiter.md): the transition status, the
choice of the target, and what a target change does to the groups' flags and to the plan. -/

namespace Sys2Proof.Machine

/-- The transition status judged (R43): STABLE gives the current stage the target, and a status that was CHANGING or a
current stage that is new makes the established report. -/
def State.judgeStatus (s : State) : State :=
  if s.standsAsTarget then
    let s' := { s with arb := { s.arb with stable := true, current := s.arb.target } }
    if s.arb.stable = true ∧ s.arb.current = s.arb.target then s' else s'.report (.established s.arb.target)
  else { s with arb := { s.arb with stable := false } }

/-- The target that the sources give: the first present of R45's precedence, else the target held. -/
def Arbiter.choice (a : Arbiter) : StageId :=
  (a.modeTarget <|> a.priorityRequest <|> a.returnTarget <|> a.demand).getD a.target

/-- The flags of one group at a target change, by whether it belongs to the new target (R57). UNUSED groups are not
touched. -/
def GroupRun.retarget (r : GroupRun) (kind : Kind) (belongs : Bool) : GroupRun :=
  if kind = .unused then r
  else
    match r.state with
    | .stop => if belongs then { r with gaining := true } else { r with gaining := false, startTimer := none }
    | .prepare => if belongs then { r with terminating := false } else { r with terminating := true, gaining := false }
    | .go => { r with terminating := !belongs }
    | .clear | .flash | .dark => r

/-- What a group has to do at a target change: a group newly gaining sets its start timer (R36), a group in GO that is left
out is checked by R15. -/
def GroupRun.retargetMove (r : GroupRun) (kind : Kind) (belongs : Bool) (g : GroupId) : Option Move :=
  if kind = .unused then none
  else
    match r.state with
    | .stop => if belongs && !r.gaining then some (.start g) else none
    | .go => if belongs then none else some (.terminate g)
    | .prepare | .clear | .flash | .dark => none

/-- The plan switch at a transition start: the pending plan becomes active (R61). A switch to another plan is an
evaluation event (R76) and a judging event of rest (R129). -/
def State.switchPlan (s : State) : State :=
  if s.mc.activePlan = s.mc.pendingPlan then s
  else ({ s with mc := { s.mc with activePlan := s.mc.pendingPlan } }).report .judgeRest

/-- The flags of every group set for a target stage, and what each group then has to do (R57), in ascending order (DESIGN
CHOICE, notes/assumptions/28.md). -/
def State.handTarget (s : State) (st : StageId) : State :=
  let set := s.stageSet st
  ({ s with
    groups := Vector.ofFn fun g : GroupId => s.groups[g].retarget (s.kind g) (inSet g set) }).moveAll
    (groupIds.filterMap fun g : GroupId => (s.grp g).retargetMove (s.kind g) (inSet g set) g)

/-- A target change (R48): the plan switches where it is a transition start (R61), the new target is set, the status is
judged, the groups and the Priority Unit take the change. -/
def State.changeTarget (s : State) (st : StageId) : State :=
  let s := if s.mc.mode.transitions && s.leavesOut st then s.switchPlan else s
  let s := { s with arb := { s.arb with target := st } }
  (s.judgeStatus.handTarget st).evaluateCalls

/-- A recomputation (R45, R48). One that gives the target already held is no target change; where `again` says that it has
one of the causes of R44 and the status is STABLE, the established report is repeated. -/
def State.recompute (s : State) (again : Bool) : State :=
  let st := s.arb.choice
  if st = s.arb.target then
    if again && s.arb.stable then s.report (.established s.arb.current) else s
  else s.changeTarget st

end Sys2Proof.Machine
end

