-- ==== Sys2Proof/Machine/Groups.lean ====
section
/-! DEFINITION. The Group Sequencer (01_signal_groups.md, 02_conflicts_intergreens_and_stages.md): the state changes of a
group with their reports, the gaining step, and the orders of the Mode Controller. -/

namespace Sys2Proof.Machine

/-! ## What a state change reports (R7) -/

/-- The red timers: in STARTUP and in CLOSING the timer starts when every group that is not UNUSED is in STOP (R103,
R109). -/
def State.checkRedTimers (s : State) : State :=
  if s.allStopped then
    match s.mc.mode with
    | .startup =>
      if s.mc.startupRed.isNone && !s.mc.released then
        { s with mc := { s.mc with startupRed := some (us s.tables.junction.startupRed) } }
      else s
    | .closing =>
      if s.mc.closingRed.isNone then { s with mc := { s.mc with closingRed := some (us s.tables.junction.closingRed) } } else s
    | .dark | .flash | .faultFlash | .localMode | .centralMode | .standby => s
  else s

/-- An entry to STOP: the group gains where it belongs to the target (R58), and the red timers are judged (R103, R109). -/
def State.stopEntered (s : State) (g : GroupId) : State :=
  let belongs := inSet g (s.stageSet s.arb.target)
  let s := s.setGrp g { s.grp g with gaining := belongs }
  let s := if belongs then s.move (.start g) else s
  s.checkRedTimers

/-- The start of GO at the Priority Unit: the service end of the call acting in EARLY for the group is set, and the green
served flag (R81). A service end that lies at this moment ends the action at this moment (R82). -/
def State.setServiceEnd (s : State) (g : GroupId) : State :=
  match s.actingCall? with
  | some c =>
    if c.state = .early ∧ c.group = g then
      let stay := min (c.eta + s.passage) s.plan.maxExt
      let s := s.updateCall c.tram fun c => { c with serviceEnd := some (s.now + us stay) }
      let s := { s with pu := { s.pu with served := setGroupBit s.pu.served g true } }
      if stay = 0 then s.report (.serviceEnd c.tram) else s
    else s
  | none => s

/-- The start timers of the groups that g conflicts with are set anew at a state change of g (R36). -/
def State.startMoves (s : State) (g : GroupId) : List Move :=
  (groupsWhere fun c => s.conflicts g c && (s.grp c).state == .stop && (s.grp c).gaining).map .start

/-- A state change of a group, from the state it had, with the reports of R7. -/
def State.reportChange (s : State) (g : GroupId) (old : GroupState) : State :=
  let new := (s.grp g).state
  let s := s.refreshOutputs
  let s := s.judgeRedOut g
  let s := if new = .go then (s.clearLatch g).setServiceEnd g else s
  let s := s.judgeStatus
  let s := s.moveAll (s.startMoves g)
  let s := if new = .stop then s.stopEntered g else s
  if old.active || new.active then s.evaluateCalls else s

/-! ## Orders (R19 to R21) -/

/-- The START order at one group (R19). -/
def GroupRun.ordered_start (r : GroupRun) (c : GroupConfig) : GroupRun :=
  if c.kind = .unused then r
  else
    let r := { r with sinceGo := none, gaining := false, terminating := false, pendingOrder := none, startTimer := none }
    match r.state with
    | .dark => { r with state := .stop, minStopTimer := startedTimer c.minStop }
    | .flash => { r with state := .clear, stateTimer := some (us c.clearTime) }
    | .stop | .prepare | .go | .clear => r

/-- The state that the FLASH or DARK order names for a kind (R20). -/
def Order.stateFor (o : Order) (kind : Kind) : GroupState :=
  match o, kind with
  | .flash, .vehicle => .flash
  | _, _ => .dark

/-- The FLASH or DARK order at one group: taken at once in STOP, FLASH and DARK, else kept pending (R20). -/
def GroupRun.ordered (r : GroupRun) (o : Order) (kind : Kind) : GroupRun :=
  if kind = .unused then r
  else
    match r.state with
    | .stop | .flash | .dark =>
      { r with state := o.stateFor kind, minStopTimer := none, startTimer := none, gaining := false, pendingOrder := none }
    | .prepare | .go | .clear => { r with pendingOrder := some o }

/-- The FAULT order at one group (R21). -/
def GroupRun.ordered_fault (r : GroupRun) (kind : Kind) : GroupRun :=
  if kind = .unused then r
  else
    { r with
      state := Order.stateFor .flash kind, stateTimer := none, minGoTimer := none, minGoLapsed := false,
      minStopTimer := none, startTimer := none, gaining := false, terminating := false, pendingOrder := none,
      sinceGo := if r.state = .go then some 0 else r.sinceGo, holdEnd := none }

/-- An order given to every group at once: each group takes it as an event of its own, and then the changes are reported
in ascending order (section 1.5; the order is a DESIGN CHOICE, notes/assumptions/28.md). -/
def State.orderAll (s : State) (f : GroupConfig → GroupRun → GroupRun) : State :=
  let old := s.groups
  let s := { s with groups := Vector.ofFn fun g : GroupId => f (s.cfg g) s.groups[g] }
  groupIds.foldl (fun s g => if old[g].state = (s.grp g).state then s else s.reportChange g old[g].state) s

/-- The START order to every group (R19). -/
def State.giveStart (s : State) : State := s.orderAll fun c r => r.ordered_start c

/-- The FLASH or DARK order to every group (R20). -/
def State.giveOrder (s : State) (o : Order) : State := s.orderAll fun c r => r.ordered o c.kind

/-- The FAULT order to every group (R21). -/
def State.giveFault (s : State) : State := s.orderAll fun c r => r.ordered_fault c.kind

/-! ## The running sequence -/

/-- A group enters STOP (R9, R18): its min stop timer starts, the change is reported, and a pending order is taken (R20). -/
def State.enterStop (s : State) (g : GroupId) : State :=
  let r := s.grp g
  let s := (s.setGrp g
    { r with state := .stop, stateTimer := none, minStopTimer := startedTimer (s.cfg g).minStop }).reportChange g r.state
  match r.pendingOrder with
  | none => s
  | some o => (s.setGrp g ((s.grp g).ordered o (s.kind g))).reportChange g .stop

/-- The running part of a group at its start of GO (R14, R8). -/
def State.goRun (s : State) (g : GroupId) : GroupRun :=
  { s.grp g with
    state := .go, stateTimer := none, minStopTimer := none, startTimer := none, minGoInForce := s.planMinGo g,
    maxGoInForce := s.planMaxGo g, minGoLapsed := false, minGoTimer := some (us (s.planMinGo g)), goElapsed := 0,
    gaining := false }

/-- A start of GO (R14). -/
def State.startGo (s : State) (g : GroupId) : State := (s.setGrp g (s.goRun g)).reportChange g (s.grp g).state

/-- An entry to PREPARE (R12). -/
def State.enterPrepare (s : State) (g : GroupId) : State :=
  (s.setGrp g
    { s.grp g with
      state := .prepare, stateTimer := some (us (s.cfg g).prepareTime), minStopTimer := none, startTimer := none }).reportChange
    g .stop

/-- The step of a gaining group out of STOP (R12). -/
def State.stepOut (s : State) (g : GroupId) : State :=
  if s.prepareLead g = 0 then s.startGo g else s.enterPrepare g

/-- The start timer of a group set anew: idle while a conflicting group is in GO or PREPARE, the value of R35 otherwise, counted
from this event (R1), and the step at once where that value is 0 (R35, R36). -/
def State.setStartTimer (s : State) (g : GroupId) : State :=
  if (s.grp g).state = .stop ∧ (s.grp g).gaining = true then
    if s.blocked g then s.setGrp g { s.grp g with startTimer := none }
    else if s.startValue g = 0 then s.stepOut g
    else s.setGrp g { s.grp g with startTimer := some (us (s.startValue g)) }
  else s

/-- The running part of a group at its end of GO, before it is known what it enters (R17). -/
def GroupRun.ended (r : GroupRun) : GroupRun :=
  { r with sinceGo := some 0, minGoTimer := none, minGoLapsed := false, terminating := false, holdEnd := none }

/-- The end of GO of a group that begins CLEAR: it enters CLEAR, or STOP directly where its clear time is 0 (R15, R17); its
green served flag is cleared (R83). -/
def State.endGo (s : State) (g : GroupId) : State :=
  let s := { s with pu := { s.pu with served := setGroupBit s.pu.served g false } }
  let s := s.setGrp g (s.grp g).ended
  if (s.cfg g).clearTime = 0 then s.enterStop g
  else
    (s.setGrp g { s.grp g with state := .clear, stateTimer := some (us (s.cfg g).clearTime) }).reportChange g .go

end Sys2Proof.Machine
end

