-- ==== Sys2Proof/Machine/StandbyUnit.lean ====
section
/-! DEFINITION. The Standby Unit (06_standby_cycle_and_rest.md): the cycle's steps, rest, and the suspension of a step
around a tram action. -/

namespace Sys2Proof.Machine

/-- The standby sequence. -/
def State.sequence (s : State) : List StageId := s.tables.junction.sequence

/-- The group set of the step stage. -/
def State.stepSet (s : State) : GroupSet :=
  match s.sb.stepStage with
  | some st => s.stageSet st
  | none => 0

/-- A stage handed to the Arbiter as the authority demand (R53, R125, R129). Where the step was a resumed one, the
handover is also the report that it has completed, so the return target becomes absent in the same recomputation (R56). -/
def State.handStage (s : State) (st : StageId) : State :=
  let done := s.sb.resumed
  ({ s with
    sb := { s.sb with
      stepStage := some st, established := false, resumed := false,
      stepGreen := if done then none else s.sb.stepGreen, resumeGreen := if done then none else s.sb.resumeGreen }
    arb := { s.arb with
      demand := some st, returnTarget := if done then none else s.arb.returnTarget } }).recompute true

/-- The positions of a sequence with their stages, from the one after a position cyclically onward to that position
(R126). -/
def searchFrom (seq : List StageId) (index : Nat) : List (StageId × Nat) :=
  (seq.zipIdx 1).drop index ++ (seq.zipIdx 1).take index

/-- The candidate of the step: the first position whose stage holds a group that has demand and is not in the step stage
(R126). -/
def State.candidate (s : State) : Option (StageId × Nat) :=
  (searchFrom s.sequence s.sb.stepIndex).find? fun (st, _) => s.stageSet st &&& s.det.demand &&& ~~~s.stepSet != 0

/-- Whether a group may no longer be kept for its extension (R126): in a resumed step when the step green timer has
expired, otherwise when its go-start elapsed has reached its max go in force. -/
def State.extensionSpent (s : State) (g : GroupId) : Bool :=
  if s.sb.resumed then s.sb.stepGreen.isNone else decide ((s.grp g).maxGoInForce ≤ wholeDs (s.grp g).goElapsed)

/-- Whether every group of the step stage that a stage leaves out may terminate (R126). -/
def State.stepMayEnd (s : State) (st : StageId) : Bool :=
  groupIds.all fun g =>
    !inSet g s.stepSet || inSet g (s.stageSet st) ||
      ((s.grp g).minGoLapsed && (!inSet g s.det.extension || s.extensionSpent g))

/-- The judgement of an established step: where there is a candidate and every terminating group may go, the step change of
R125 (R126, R127). -/
def State.judgeStep (s : State) : State :=
  if s.mc.mode = .standby ∧ s.sb.established = true ∧ s.sb.suspended = false then
    match s.candidate with
    | some (st, pos) =>
      if s.stepMayEnd st then ({ s with sb := { s.sb with stepIndex := pos, atRest := false } }).handStage st else s
    | none => s
  else s

/-- The conditions of rest entry (R129). -/
def State.restDue (s : State) : Bool :=
  s.mc.mode == .standby && !s.sb.atRest && !s.sb.suspended && s.sb.established &&
    s.plan.restDelay != 0 && decide (s.plan.restDelay ≤ wholeDs s.sb.restElapsed) &&
    (s.det.demand &&& ~~~s.stepSet == 0) &&
    (s.det.extension &&& s.stepSet &&& ~~~(s.stageSet s.tables.junction.restStage) == 0)

/-- The position after which a search from rest starts: that of the rest stage's first occurrence, or the last (R129,
R130). -/
def restPosition (seq : List StageId) (rest : StageId) : Nat :=
  match seq.findIdx? (· == rest) with
  | some i => i + 1
  | none => seq.length

/-- The judgement of rest entry (R129). -/
def State.judgeRest (s : State) : State :=
  if s.restDue then
    let rest := s.tables.junction.restStage
    ({ s with sb := { s.sb with atRest := true, stepIndex := restPosition s.sequence rest } }).handStage rest
  else s

/-- The step becomes established (R124): the step green timer of a resumed step starts from the resume green, and the step
and rest are judged (R127, R129). -/
def State.establish (s : State) : State :=
  let timer := if s.sb.resumed then startedTimer (s.sb.resumeGreen.getD 0) else s.sb.stepGreen
  ({ s with sb := { s.sb with established := true, stepGreen := timer } }).judgeStep.judgeRest

/-- The Arbiter's established report at the Standby Unit, in STANDBY (R124). -/
def State.takeEstablished (s : State) (st : StageId) : State :=
  if s.sb.suspended = false ∧ s.sb.stepStage = some st then s.establish else s

/-- The position and stage of the first step of a cycle that starts from a stage (R123). -/
def firstStep (seq : List StageId) (current : StageId) : Option (StageId × Nat) :=
  (searchFrom seq (match seq.findIdx? (· == current) with
    | some i => i + 1
    | none => 0)).head?

/-- The Standby Unit starts its cycle, at an entry to STANDBY (R123, R131); the stage of the first step becomes the
authority demand (R52). -/
def State.startCycle (s : State) : State :=
  match firstStep s.sequence s.arb.current with
  | some (st, pos) =>
    { s with
      sb := { Standby.reset with
        stepIndex := pos, stepStage := some st, suspended := s.actingCall?.isSome }
      arb := { s.arb with demand := some st } }
  | none => s

/-- The report that a tram action is in progress, at the Standby Unit (R131). -/
def State.suspendStep (s : State) : State :=
  if s.mc.mode = .standby then
    { s with
      sb := { s.sb with
        suspended := true, established := false, stepGreen := none,
        resumeGreen := if s.sb.stepGreen.isSome then s.sb.stepGreen.map dsUp else s.sb.resumeGreen } }
  else s

/-- The report that the tram action is over, at the Standby Unit, with the standby remaining it carries (R132). -/
def State.resumeStep (s : State) (remaining : Option Nat) : State :=
  if s.mc.mode = .standby ∧ s.sb.suspended = true then
    let s := { s with
      sb := { s.sb with
        suspended := false
        resumed := if remaining.isSome then true else s.sb.resumed
        resumeGreen := if remaining.isSome then remaining else s.sb.resumeGreen } }
    if s.arb.stable = true ∧ s.sb.stepStage = some s.arb.current then s.establish else s
  else s

end Sys2Proof.Machine
end

