-- ==== Sys2Proof/Machine/Priority.lean ====
section
/-! DEFINITION. The Priority Unit (04_tram_priority.md): the call list, evaluation, EARLY and EXTEND, recovery, pre-emption,
the return stack and teardown. -/

namespace Sys2Proof.Machine

/-! ## Call records -/

/-- A call in a state with no timer, limit or service end (R74). -/
def Call.plain (c : Call) (st : CallState) : Call :=
  { c with state := st, actionTimer := none, extensionLimit := none, serviceEnd := none }

/-- A call released from SUSPENDED by an overflow or a pop: WAITING with no action timer, judged by the next pass (R90,
R93). -/
def State.releaseCall (s : State) (tram : Nat) : State :=
  (s.updateCall tram fun c => if c.state = .suspended then c.plain .waiting else c).evaluateCalls

/-- Whether a call ranks above another (R67). -/
def Call.above (a b : Call) : Bool := decide (a.cls < b.cls) || (a.cls == b.cls && decide (a.stamp < b.stamp))

/-- A call put into a list in rank order (R67). -/
def insertRanked (c : Call) : List Call → List Call
  | [] => [c]
  | d :: rest => if c.above d then c :: d :: rest else d :: insertRanked c rest

/-- The priority stage P(G) of a group (R27). -/
def State.priorityStage (s : State) (g : GroupId) : StageId := s.tables.junction.priority[g]

/-- A group without a hold end (R16). -/
def State.clearHold (s : State) (g : GroupId) : State := s.setGrp g { s.grp g with holdEnd := none }

/-- The hold end of a group removed; the group is released at its next check of R15 (R16). -/
def State.removeHold (s : State) (g : GroupId) : State := (s.clearHold g).move (.terminate g)

/-! ## The priority request (R47) -/

/-- The priority request that is handed over or withdrawn, at the Arbiter: a recomputation event (R47, R48). -/
def State.requestPriority (s : State) (p : Option StageId) : State :=
  ({ s with arb := { s.arb with priorityRequest := p } }).recompute false

/-- The priority request handed to the Arbiter, or withdrawn (R47). Where groups still have a target change of this moment to
take, the Arbiter takes the request after them, so that an intermediate target is taken as R57 gives (R49; DESIGN CHOICE,
notes/assumptions/2.md). -/
def State.handRequest (s : State) (p : Option StageId) : State :=
  if s.work.moves.isEmpty && s.work.requests.isEmpty then s.requestPriority p
  else { s with work := { s.work with requests := s.work.requests ++ [p] } }

/-! ## The return stack (R90) -/

/-- The bottom record discarded where the stack is full (R90). "The call that it names" is the one in the list with its tram
id, also where that tram has checked in anew since the record's own call was removed (DESIGN CHOICE,
notes/assumptions/32.md). -/
def State.makeRoom (s : State) : State :=
  if s.pu.stack.length < Config.maxStack then s
  else
    let bottom := s.pu.stack.getLast?.bind (·.call)
    let s := { s with pu := { s.pu with stack := s.pu.stack.dropLast } }
    let s := s.post .stackOverflow (bottom.getD 0)
    match bottom with
    | some tram => s.releaseCall tram
    | none => s

/-- A return record pushed, naming the suspended call and its action or none (R90). In STANDBY a record that names no call
carries the green left to the step (R131). -/
def State.pushRecord (s : State) (call : Option (Nat × Action)) : State :=
  let s := s.makeRoom
  let record : ReturnRecord :=
    { resume := s.arb.target, demand := s.arb.demand,
      standbyRemaining := if call.isNone ∧ s.mc.mode = .standby then some s.greenLeft else none,
      call := call.map (·.1), suspended := call.map (·.2), stale := false }
  { s with pu := { s.pu with stack := record :: s.pu.stack } }

/-- Every record takes the stale mark, at an accepted STAGE_DEMAND and at an authority change (R91). -/
def State.markStale (s : State) : State :=
  { s with pu := { s.pu with stack := s.pu.stack.map fun r => { r with stale := true } } }

/-! ## Starting an action -/

/-- The action that a call acts in. -/
def Call.action (c : Call) : Action := if c.state = .early then .early else .extend

/-- The acting call suspended by a pre-emption: its record is pushed, and it enters SUSPENDED (R88, R89). -/
def State.suspendCall (s : State) (v : Call) : State :=
  let s := s.pushRecord (some (v.tram, v.action))
  let s := s.updateCall v.tram fun c => c.plain .suspended
  { s with pu := { s.pu with resumedMark := false } }

/-- A due call starts an EARLY action (R80), pre-empting the acting call where one is (R88). -/
def State.startEarly (s : State) (c : Call) : State :=
  let victim := s.actingCall?
  let s := match victim with
    | none => (s.pushRecord none).suspendStep
    | some v => s.suspendCall v
  let s := s.updateCall c.tram fun c => c.plain .early
  let s := s.handRequest (some (s.priorityStage c.group))
  match victim with
  | some v => if v.state = .extend then s.removeHold v.group else s
  | none => s

/-! ## Evaluation (R76 to R79) -/

/-- One call judged in a pass (R77, R78); the mark says whether an acting call has been passed. The action timer of a call
that waits is set to its slack and counts it from the pass (R79, R1; DEDUCED, where the phases differ,
notes/assumptions/34.md). -/
def State.judgeCall (sp : State × Bool) (tram : Nat) : State × Bool :=
  let (s, passed) := sp
  match s.call? tram with
  | none => (s, passed)
  | some c =>
    if c.acting then (s, true)
    else if c.state = .suspended then (s, passed)
    else if (s.grp c.group).state = .go ∨ inSet c.group (s.stageSet s.arb.target) = true then
      (s.updateCall tram fun c => c.plain .natural, passed)
    else if 0 < s.slack c then
      (s.updateCall tram fun d => { d.plain .waiting with actionTimer := some (us (s.slack c).toNat) }, passed)
    else if passed then (s.updateCall tram fun c => c.plain .waiting, passed)
    else if s.pu.recovery.isSome then (s.updateCall tram fun c => c.plain .blocked, passed)
    else (s.startEarly c, true)

/-- One pass over the whole list, from the first call to the last (R77). -/
def State.pass (s : State) : State := ((s.pu.calls.map (·.tram)).foldl State.judgeCall (s, false)).1

/-! ## The pop and the end of an action (R92 to R94) -/

/-- What a pop leaves (R93): an empty stack, a stage to return to with the standby remaining of its record, or a call to
resume in EARLY. -/
inductive PopOutcome where
  | empty
  | back (st : StageId) (remaining : Option Nat)
  | resume (c : Call)
  deriving DecidableEq, Repr

/-- The records removed from the top of the stack, one at a time, until one stops the pop (R91, R93). -/
def State.popRecords (s : State) : List ReturnRecord → State × PopOutcome
  | [] => ({ s with pu := { s.pu with stack := [] } }, .empty)
  | r :: rest =>
    let stale := r.stale || r.demand != s.arb.demand
    match r.call with
    | none =>
      if stale then s.popRecords rest else ({ s with pu := { s.pu with stack := rest } }, .back r.resume r.standbyRemaining)
    | some tram =>
      match s.call? tram with
      | none => s.popRecords rest
      | some c =>
        if stale || r.suspended != some .early then (s.releaseCall tram).popRecords rest
        else ({ s with pu := { s.pu with stack := rest } }, .resume c)

/-- A call resumes its EARLY action at a pop (R94). Where its group is in GO, the service end lies the smaller of T + p and
maxExt less the group's go-start elapsed, in whole deciseconds, after the resumption (R94, R11, R1; DEDUCED, where the
resumption is no whole number of deciseconds after the start of GO, notes/assumptions/29.md). -/
def State.resumeEarly (s : State) (c : Call) : State :=
  let s := s.updateCall c.tram fun c => c.plain .early
  let s := { s with pu := { s.pu with resumedMark := true } }
  if (s.grp c.group).state = .go then
    let stay := min (c.eta + s.passage) (s.plan.maxExt - wholeDs (s.grp c.group).goElapsed)
    let s := s.updateCall c.tram fun c => { c with serviceEnd := some (s.now + us stay) }
    let s := { s with pu := { s.pu with served := setGroupBit s.pu.served c.group true } }
    if stay = 0 then s.report (.serviceEnd c.tram) else s
  else s

/-- The recovery timer started at an action end that was not a resumed one (R87); a recovery time of 0 expires at that
moment, which is an evaluation event like the action end itself. -/
def State.startRecovery (s : State) : State :=
  { s with
    pu := { s.pu with
      recovery := if s.pu.resumedMark then s.pu.recovery else startedTimer s.plan.recovery
      resumedMark := false } }

/-- The outcome of the pop handed to the Arbiter (R92 step 4). `early` says that the ended action was an EARLY one. -/
def State.handOutcome (s : State) (early : Bool) : PopOutcome → State
  | .resume c => (s.resumeEarly c).handRequest (some (s.priorityStage c.group))
  | .back st _ =>
    ({ s with
      arb := { s.arb with
        returnTarget := some st
        priorityRequest := if early then none else s.arb.priorityRequest } }).recompute false
  | .empty => if early then s.handRequest none else s

/-- The standby remaining that a pop's outcome carries (R92 step 5). -/
def PopOutcome.remaining : PopOutcome → Option Nat
  | .back _ r => r
  | .empty | .resume _ => none

/-- An action end, from step 2 on, one event of the Priority Unit (R92): recovery, the pop, its outcome handed to the
Arbiter, the report to the Standby Unit, the evaluation. Step 1 is the caller's: the ending call has left the list, or is
WAITING. The Standby Unit takes the report, and the pass runs, before a termination that the outcome permits is answered, so
an action that such an answer or the pass starts finds this one over (R131, R132). -/
def State.endAction (s : State) (early : Bool) : State :=
  let s := s.startRecovery
  let (s, outcome) := s.popRecords s.pu.stack
  let s := s.handOutcome early outcome
  let s := if s.actingCall?.isNone then s.resumeStep outcome.remaining else s
  s.pass

/-- The end of the action of a call that stays in the list, at its service end or hold end (R82, R86, R92 step 1). -/
def State.endActionOf (s : State) (c : Call) : State :=
  (s.updateCall c.tram fun c => c.plain .waiting).endAction (c.state == .early)

/-- A service end taken: the EARLY action ends with the call kept in the list (R82). -/
def State.takeServiceEnd (s : State) (tram : Nat) : State :=
  match s.call? tram with
  | some c => if c.state = .early ∧ s.reached c.serviceEnd = true then s.endActionOf c else s
  | none => s

/-- The call in EXTEND for a group, where there is one. -/
def State.extendCall? (s : State) (g : GroupId) : Option Call :=
  s.pu.calls.find? fun c => c.state == .extend && c.group == g

/-- A hold end that has been reached, taken by the group and by the Priority Unit as one (R16, R86): the hold end is
removed, the EXTEND action ends with the call kept in the list. -/
def State.arriveHold (s : State) (g : GroupId) : State :=
  let s := s.clearHold g
  match s.extendCall? g with
  | some c => s.endActionOf c
  | none => s

/-- The arrival of a hold end: it is removed, the EXTEND action ends, and the conditions of R15 are checked (R16, R86). -/
def State.reachHoldEnd (s : State) (g : GroupId) : State :=
  if s.reached (s.grp g).holdEnd then (s.arriveHold g).move (.terminate g) else s

/-! ## Termination permitted (R83, R84, R89) -/

/-- The considered call of a termination permitted: the highest-ranked call for the group that is NATURAL (R83). -/
def State.consideredCall? (s : State) (g : GroupId) : Option Call :=
  s.pu.calls.find? fun c => c.group == g && c.state == .natural

/-- Whether a call ahead of a call in list order is acting (R83). -/
def actingAhead (tram : Nat) : List Call → Bool
  | [] => false
  | c :: rest => if c.tram = tram then false else c.acting || actingAhead tram rest

/-- The grant of an extension to the considered call (R84), as a pre-emption where a call behind it acts (R89). The request of
a pre-empted EARLY call is withdrawn after the other groups have taken the target change that permitted this termination
(R49). -/
def State.grantExtend (s : State) (c : Call) : State :=
  let victim := s.actingCall?
  let s := match victim with
    | none => s.suspendStep
    | some v => s.suspendCall v
  let s := s.updateCall c.tram fun d =>
    { d.plain .extend with extensionLimit := some (s.now + us s.plan.maxExt) }
  let s := s.setGrp c.group { s.grp c.group with holdEnd := some (s.now + us (c.eta + s.passage)) }
  let s := { s with pu := { s.pu with served := setGroupBit s.pu.served c.group true } }
  match victim with
  | some v =>
    if v.state = .early then s.handRequest none else s.removeHold v.group
  | none => s

/-- The Priority Unit's answer to a termination permitted of a TRAM group: a release, which ends its GO, or a hold end
(R83, R84). -/
def State.answerTermination (s : State) (g : GroupId) : State :=
  if inSet g s.pu.served then s.endGo g
  else
    match s.consideredCall? g with
    | none => s.endGo g
    | some c =>
      if actingAhead c.tram s.pu.calls then s.endGo g
      else if c.eta + s.passage ≤ s.plan.maxExt then s.grantExtend c
      else (s.post .extRefused c.tram).endGo g

/-- A group that may terminate begins CLEAR, a TRAM group after the Priority Unit's answer (R15). -/
def State.terminate (s : State) (g : GroupId) : State :=
  match s.kind g with
  | .tram => s.answerTermination g
  | .vehicle | .pedestrian | .unused => s.endGo g

/-- The conditions of R15 for a group in GO, but for the hold: terminating, and min go lapsed. -/
def GroupRun.mayTerminate (r : GroupRun) : Bool := r.state == .go && r.terminating && r.minGoLapsed

/-- The check of R15 at a group. Where its hold end has been reached, the arrival is taken at this moment, as an event of its
own, and releases the group (R16; notes/assumptions/10.md). -/
def State.checkTermination (s : State) (g : GroupId) : State :=
  if (s.grp g).mayTerminate && !s.held g then
    if (s.grp g).holdEnd.isSome then s.report (.holdEnd g) else s.terminate g
  else s

/-! ## Removal and teardown (R73, R96) -/

/-- A return record after the removal of a tram's call: stale where it names that call (R73). -/
def ReturnRecord.withdraw (tram : Nat) (r : ReturnRecord) : ReturnRecord :=
  if r.call = some tram then { r with stale := true } else r

/-- A call removed from the list by checkout, cancel, timeout or eviction (R73). The records that name it become stale. The
hold end of one in EXTEND goes with it, and its group reports its termination again after the action end (R86). -/
def State.removeCall (s : State) (c : Call) : State :=
  let s := { s with
    pu := { s.pu with
      calls := s.pu.calls.filter fun d => d.tram != c.tram
      stack := s.pu.stack.map (ReturnRecord.withdraw c.tram) } }
  let s := s.refreshOutputs.evaluateCalls
  match c.state with
  | .early => s.endAction true
  | .extend => ((s.clearHold c.group).endAction false).move (.terminate c.group)
  | .waiting | .natural | .blocked | .suspended => s

/-- The teardown at an entry to CLOSING, FAULT_FLASH, DARK or FLASH (R96). The priority request is withdrawn, with any that
the Arbiter has not taken yet. -/
def State.teardown (s : State) : State :=
  let calls := s.pu.calls
  let acting := s.actingCall?
  let s := { s with
    pu := { s.pu with calls := [], stack := [], recovery := none, resumedMark := false, served := 0 }
    arb := { s.arb with priorityRequest := none }
    work := { s.work with requests := [] } }
  let s := match acting with
    | some c => if c.state = .extend then s.removeHold c.group else s
    | none => s
  match calls with
  | [] => s
  | c :: _ => (s.post .callDropped c.tram).refreshOutputs

end Sys2Proof.Machine
end

