-- ==== Sys2Proof/Machine/Modes.lean ====
section
/-! DEFINITION. The Mode Controller (05_junction_modes_and_control_authority.md): mode changes with what each neighbouring
block does at them, supervision, fall-through and the end of STARTUP. -/

namespace Sys2Proof.Machine

/-- The mode target of a mode at its entry (R46). -/
def Mode.entryTarget : Mode → Option StageId
  | .localMode | .centralMode | .standby => none
  | .dark | .flash | .faultFlash | .startup | .closing => some 0

/-- What the Mode Controller's own fields become at an entry to a mode (R98, R100, R108, R110). -/
def ModeControl.entered (m : ModeControl) (new : Mode) : ModeControl :=
  let m := { m with mode := new, faultLine := decide (new = .faultFlash) }
  if new.isIdle then
    { m with
      closingDest := none, startupRed := none, released := false, closingRed := none, localTimer := none,
      localAlive := false, centralTimer := none, centralAlive := false }
  else if new = .closing then { m with startupRed := none, released := false }
  else m

/-- The Arbiter's fields at an entry to a mode (R46, R54). -/
def Arbiter.entered (a : Arbiter) (new : Mode) : Arbiter :=
  let a := { a with modeTarget := new.entryTarget, returnTarget := none }
  if new.isSignal then a else { a with demand := none }

/-- Every force removed, at an exit from DARK (R100, R169), and the conflict run set to 0 (R174). -/
def State.leaveDark (s : State) : State :=
  ({ s with
    out := { s.out with force := Vector.replicate 72 none }
    lm := { s.lm with conflictRun := 0 } }).refreshOutputs

/-- A mode change, but for the recomputation of the target and the orders to the groups, which its cause gives (R100): the
events, the fields of the Mode Controller and the Arbiter, teardown (R96), the Standby Unit's stop (R122), the removal of
forces, the stale marks of an authority change (R91), and the repeated red-out reports (R176). The mode target and the
withdrawal of the priority request at teardown are both in place before the one recomputation, as where the Arbiter takes the
mode target first (R46; DESIGN CHOICE, notes/assumptions/31.md). -/
def State.changeMode (s : State) (new : Mode) : State :=
  let old := s.mc.mode
  let s := { s with mc := s.mc.entered new, arb := s.arb.entered new }
  let s := s.post .mode new.code
  let s := if new.isSignal then (s.post .authority new.authority).markStale else s
  let s := if new.isIdle || new == .closing then s.teardown else s
  let s := if old = .standby then { s with sb := Standby.reset } else s
  let s := if old = .dark ∧ new ≠ .dark then s.leaveDark else s
  if new.isSignal then s.repeatRedOut else s

/-- The entry to LOCAL with an authority demand, or with the target held (R52, R118, R119). -/
def State.enterLocal (s : State) (demand : Option StageId) : State :=
  let s := s.changeMode .localMode
  ({ s with arb := { s.arb with demand := demand } }).recompute false

/-- The entry to CENTRAL: no authority demand, the target held (R116, R52). -/
def State.enterCentral (s : State) : State :=
  let s := s.changeMode .centralMode
  ({ s with arb := { s.arb with demand := none } }).recompute false

/-- The entry to STANDBY (R120): the standby plan becomes pending, the Standby Unit starts its cycle and hands its first
stage (R123). From STARTUP the mode target becomes absent and that stage replaces a demand stored from L before the one
recomputation, so the stored demand is no intermediate target (R49, R52; DESIGN CHOICE, notes/assumptions/31.md). -/
def State.enterStandby (s : State) : State :=
  let s := s.changeMode .standby
  let s := { s with mc := { s.mc with pendingPlan := s.tables.junction.standbyPlan } }
  s.startCycle.recompute true

/-- The entry to CLOSING with a destination (R108). The closing red timer starts at the entry where every group that is
not UNUSED is in STOP. -/
def State.enterClosing (s : State) (dest : Order) : State :=
  let s := s.changeMode .closing
  ({ s with mc := { s.mc with closingDest := some dest } }).checkRedTimers.recompute false

/-- The entry to FAULT_FLASH at a conflict fault (R110): the FAULT order to every group, the target 0. -/
def State.enterFaultFlash (s : State) : State := (s.changeMode .faultFlash).giveFault.recompute false

/-- The entry to FLASH, with the FLASH order to every group (R106, R109, R111). -/
def State.enterFlash (s : State) : State := ((s.changeMode .flash).giveOrder .flash).recompute false

/-- The entry to DARK, with the DARK order to every group (R107, R109). -/
def State.enterDark (s : State) : State := ((s.changeMode .dark).giveOrder .dark).recompute false

/-! ## Supervision (R113) -/

/-- A refresh of a port: its supervision timer starts from the full time and it is alive. In DARK, FLASH and FAULT_FLASH,
and for port T, it has no effect (R113). -/
def State.refreshPort (s : State) (p : Port) : State :=
  if s.mc.mode.isIdle then s
  else
    match p with
    | .l => { s with mc := { s.mc with localTimer := some (us s.tables.junction.localTime), localAlive := true } }
    | .c => { s with mc := { s.mc with centralTimer := some (us s.tables.junction.centralPeriod), centralAlive := true } }
    | .t => s

/-- An accepted SWITCH_ON from a port (R102). -/
def State.enterStartup (s : State) (p : Port) : State :=
  let s := s.changeMode .startup
  let s := { s with mc := { s.mc with activePlan := s.mc.pendingPlan } }
  let s := s.refreshPort p
  s.giveStart.checkRedTimers.recompute false

/-- Where the junction goes when LOCAL cannot hold it: STANDBY where standby is enabled, else CLOSING to FLASH (R104, R114,
R117). -/
def State.enterFallback (s : State) : State :=
  if s.standbyEnabled then s.enterStandby else s.enterClosing .flash

/-- The fall-through out of CENTRAL (R117). -/
def State.fallThrough (s : State) : State :=
  if s.mc.localAlive then s.enterLocal none else s.enterFallback

/-- The end of STARTUP, at an established report while the start stage is released (R104). -/
def State.endStartup (s : State) : State :=
  let s' := { s with mc := { s.mc with released := false } }
  if s.mc.localAlive then s'.enterLocal s.arb.demand else s'.enterFallback

/-! ## Reports to the Mode Controller -/

/-- The established report at the Mode Controller and at the Standby Unit: it ends STARTUP once the start stage is released
(R104), and in STANDBY it can establish the step (R124). -/
def State.takeReportEstablished (s : State) (st : StageId) : State :=
  match s.mc.mode with
  | .startup => if s.mc.released then s.endStartup else s
  | .standby => s.takeEstablished st
  | .dark | .flash | .faultFlash | .localMode | .centralMode | .closing => s

/-- A red-out report, by the mode (R175, R108). -/
def State.takeRedOut (s : State) : State := if s.mc.mode.isSignal then s.enterClosing .flash else s

/-- A conflict fault report, by the mode (R110); it is taken within the sample that makes it (DESIGN CHOICE,
notes/assumptions/37.md). -/
def State.takeConflictFault (s : State) : State :=
  match s.mc.mode with
  | .dark | .faultFlash => s
  | .flash | .startup | .localMode | .centralMode | .standby | .closing => s.enterFaultFlash

end Sys2Proof.Machine
end

