-- ==== Sys2Proof/Machine/Settle.lean ====
section
/-! DEFINITION. How the blocks take one another's reports within one moment, until nothing is left to take. The spec lets
the events of one moment be taken in either order; the model takes them in this one (DESIGN CHOICE,
notes/assumptions/2.md): the moves of groups first, in the order they became due, so that the groups have taken a target
change before anything else can change the target again (R49, R57); then the priority requests that the Arbiter has not
taken yet; then the reports, in the order they were made; then one pass of the Priority Unit over its calls. -/

namespace Sys2Proof.Machine

/-- A report taken by the block it is made to. -/
def State.takeReport (s : State) : Report → State
  | .established st => s.takeReportEstablished st
  | .judgeStep => s.judgeStep.judgeRest
  | .judgeRest => s.judgeRest
  | .holdEnd g => s.reachHoldEnd g
  | .serviceEnd tram => s.takeServiceEnd tram
  | .redOut _ => s.takeRedOut
  | .conflictFault => s.takeConflictFault

/-- What a group does at this moment. -/
def State.takeMove (s : State) : Move → State
  | .start g => s.setStartTimer g
  | .terminate g => s.checkTermination g

/-- Whether nothing is in flight between the blocks. -/
def Work.isIdle (w : Work) : Bool := w.reports.isEmpty && w.moves.isEmpty && w.requests.isEmpty && !w.evaluate

/-- One move, one priority request, one report or one pass taken. -/
def State.settleStep (s : State) : State :=
  match s.work.moves with
  | m :: rest => ({ s with work := { s.work with moves := rest } }).takeMove m
  | [] =>
    match s.work.requests with
    | p :: rest => ({ s with work := { s.work with requests := rest } }).requestPriority p
    | [] =>
      match s.work.reports with
      | r :: rest => ({ s with work := { s.work with reports := rest } }).takeReport r
      | [] => if s.work.evaluate then ({ s with work := { s.work with evaluate := false } }).pass else s

/-- At most n moves, requests, reports and passes taken, until nothing is left. -/
def State.settleFor : Nat → State → State
  | 0, s => s
  | n + 1, s => if s.work.isIdle then s else settleFor n s.settleStep

/-- Everything in flight between the blocks taken, within one moment. -/
def State.settle (s : State) : State := s.settleFor Config.settleBound

end Sys2Proof.Machine
end

