-- ==== Sys2Proof/Machine/Link.lean ====
section
/-! DEFINITION. The Link Interface (10_link_ports_and_requests.md): the CRC and the frame, the receiver, the request slot,
the judging of a taken request and the forming of its response. A block's own answer to a request is a `Reply`. -/

namespace Sys2Proof.Machine

/-! ## CRC and frame (R181, R183) -/

/-- One bit of a byte taken into the CRC register (R183). -/
def crcBit (b : Byte) (crc : BitVec 16) (i : Nat) : BitVec 16 :=
  let shifted := crc <<< 1
  if xor crc.msb (b.getLsbD i) then shifted ^^^ Config.crcPoly else shifted

/-- One byte taken into the CRC register, most significant bit first (R183). -/
def crcByte (crc : BitVec 16) (b : Byte) : BitVec 16 := [7, 6, 5, 4, 3, 2, 1, 0].foldl (crcBit b) crc

/-- The CRC over a run of bytes (R183). -/
def crcOf (bs : List Byte) : BitVec 16 := bs.foldl crcByte Config.crcStart

/-- A frame: SYNC, LEN, KIND, payload, CRC low byte first (R181, 11.1). -/
def frame (kind : Byte) (payload : List Byte) : List Byte :=
  let covered := byte (payload.length + 1) :: kind :: payload
  Config.sync :: covered ++ le2 (crcOf covered).toNat

/-! ## Answers of the owning blocks -/

/-- What a block answers to a request: the state after it, the result, and the content after the result, one list of bytes
for each segment (R185). -/
structure Reply where
  state : State
  result : Result
  content : List (List Byte)

/-- A refusal that carries the result alone and changes nothing (R187). -/
def State.refuse (s : State) (r : Result) : Reply := { state := s, result := r, content := [[]] }

/-- An acceptance that returns nothing (R187). -/
def State.accept (s : State) : Reply := { state := s, result := .ok, content := [[]] }

/-- An acceptance that returns content. -/
def State.acceptWith (s : State) (content : List Byte) : Reply := { state := s, result := .ok, content := [content] }

/-! ## The request slot (R184 to R186) -/

/-- The frames of a response: the request's KIND with its top bit set, the result, the content of each segment (R185). -/
def responseFrames (kind : Byte) (r : Result) (content : List (List Byte)) : List (List Byte) :=
  content.map fun c => frame (kind ||| 0x80) (r.code :: c)

/-- A request of one port put into its slot (R184). -/
def State.holdSlot (s : State) (p : Port) : State := s.setPort p { s.ports.get p with busy := true }

/-- A reply turned into the port's response, formed at the moment the request is taken (R185). -/
def Reply.respond (r : Reply) (p : Port) (kind : Byte) : State :=
  r.state.setPort p { r.state.ports.get p with response := responseFrames kind r.result r.content }

/-- A well-formed request that completes while the slot is BUSY: OVERRUN (R184). -/
def State.overrun (s : State) (p : Port) : State := s.post .overrun (portCode p)

/-- A well-formed request of a known kind that completes at a port. A port that its strap disables receives nothing
(R180). In a BUSY slot it is an OVERRUN; else it is taken, judged by R186, handed to its owning block and answered (R184,
R185); then the blocks take one another's reports. -/
def State.takeRequest (s : State) (p : Port) (k : RequestKind) (lengthFits : Bool) (owner : State → Reply) : State :=
  if !s.portEnabled p then s
  else if (s.ports.get p).busy then s.overrun p
  else
    let s := s.holdSlot p
    if !k.listed p then (s.refuse .notPermitted).respond p k.code
    else if !lengthFits then (s.refuse .badLength).respond p k.code
    else ((owner s).respond p k.code).settle

/-- A well-formed frame whose KIND is no request kind of the part, at a port (R186). -/
def State.takeUnknown (s : State) (p : Port) (kind : Byte) : State :=
  if !s.portEnabled p then s
  else if (s.ports.get p).busy then s.overrun p
  else ((s.holdSlot p).refuse .unknownKind).respond p kind

/-! ## The receiver (R182) -/

/-- What a byte brings about at a receiver besides its own fields. -/
inductive Received where
  | nothing
  | abandoned
  | badCrc
  | complete (body : List Byte)
  deriving DecidableEq, Repr

/-- The receiver back in HUNT. -/
def PortRecord.hunting (r : PortRecord) : PortRecord := { r with rx := .hunt, toCome := 0 }

/-- A byte whose stop bit was sampled high, taken by its receive state (R182, R183). -/
def PortRecord.takeByte (r : PortRecord) (b : Byte) : PortRecord × Received :=
  match r.rx with
  | .hunt =>
    if b = Config.sync then ({ r with rx := .length, crc := Config.crcStart, body := [] }, .nothing) else (r, .nothing)
  | .length =>
    if 1 ≤ b.toNat ∧ b.toNat ≤ Config.maxLen then
      ({ r with rx := .body, toCome := b.toNat, crc := crcByte r.crc b }, .nothing)
    else (r.hunting, .abandoned)
  | .body =>
    let r := { r with crc := crcByte r.crc b, body := r.body ++ [b] }
    if r.toCome ≤ 1 then ({ r with rx := .check, toCome := 2 }, .nothing)
    else ({ r with toCome := r.toCome - 1 }, .nothing)
  | .check =>
    if r.toCome = 2 then ({ r with toCome := 1, crcLow := b }, .nothing)
    else if b ++ r.crcLow = r.crc then (r.hunting, .complete r.body)
    else (r.hunting, .badCrc)

/-- A character that completes at a receiver; one whose stop bit is sampled low is a byte error (R181, R182). -/
def PortRecord.receive (r : PortRecord) (b : Byte) (stopHigh : Bool) : PortRecord × Received :=
  if stopHigh then r.takeByte b
  else
    match r.rx with
    | .hunt => (r, .nothing)
    | .length | .body | .check => (r.hunting, .abandoned)

/-- The gap limit reached inside a frame: the frame is abandoned (R182). -/
def State.abandonFrame (s : State) (p : Port) : State :=
  if s.portEnabled p = true ∧ (s.ports.get p).rx ≠ .hunt then
    (s.setPort p (s.ports.get p).hunting).post .framing (portCode p)
  else s

/-! ## The transmitter (R179, R184, R185) -/

/-- The first byte of a response begins: the transmitter is SENDING. -/
def State.beginTransmission (s : State) (p : Port) : State :=
  let r := s.ports.get p
  if r.busy && !r.sending && !r.response.isEmpty then s.setPort p { r with sending := true } else s

/-- The last byte of the response, or of its last segment, has been sent: the transmitter is IDLE and the slot EMPTY. -/
def State.endTransmission (s : State) (p : Port) : State :=
  let r := s.ports.get p
  if r.sending then s.setPort p { r with busy := false, sending := false, response := [] } else s

end Sys2Proof.Machine
end

