-- ==== Sys2Proof/Machine/CallRequests.lean ====
section
/-! DEFINITION. The requests of the tram detection interface (04_tram_priority.md, 4.2): check-in as insertion with
eviction and restamping or as update, checkout and cancel. For each, the Priority Unit's answer to it and the meaning of
its row. -/

namespace Sys2Proof.Machine

/-! ## Arrival stamps (R67) -/

/-- The number of calls with an older stamp, which is a call's new stamp at a renumbering (R67). -/
def olderCalls (calls : List Call) (c : Call) : Nat := (calls.filter fun d => decide (d.stamp < c.stamp)).length

/-- The present calls stamped anew from 0 in the order of their stamps, where the counter is 65,535 (R67). -/
def PriorityUnit.renumbered (u : PriorityUnit) : PriorityUnit :=
  if u.arrivals = Config.countMax then
    { u with calls := u.calls.map fun c => { c with stamp := olderCalls u.calls c }, arrivals := u.calls.length }
  else u

/-! ## Insertion and update (R69, R70, R85) -/

/-- The candidate for eviction: the lowest-ranked call that is neither acting nor SUSPENDED (R69). -/
def State.evictable? (s : State) : Option Call :=
  s.pu.calls.reverse.find? fun c => !c.acting && c.state != .suspended

/-- A new call inserted at its rank with the next arrival stamp (R69). -/
def State.insertCall (s : State) (w : Checkin) (g : GroupId) : State :=
  let pu := s.pu.renumbered
  let c : Call :=
    { tram := w.tram, group := g, cls := w.cls, travel := min w.travel Config.maxTravel, elapsed := 0,
      stamp := pu.arrivals, state := .waiting, actionTimer := none, extensionLimit := none, serviceEnd := none }
  ({ s with pu := { pu with calls := insertRanked c pu.calls, arrivals := pu.arrivals + 1 } }).refreshOutputs

/-- The hold end that an update of a call in EXTEND gives: T + p after it, at the latest the extension limit (R85). -/
def State.movedHold (s : State) (c : Call) : Nat :=
  match c.extensionLimit with
  | some limit => min (s.now + us (c.eta + s.passage)) limit
  | none => s.now + us (c.eta + s.passage)

/-- The hold end of the group of a call in EXTEND moved at an update (R85); a hold end moved to a time already reached
releases the group (R16). -/
def State.moveHold (s : State) (c : Call) : State :=
  (s.setGrp c.group { s.grp c.group with holdEnd := some (s.movedHold c) }).move (.terminate c.group)

/-- A call updated by a check-in and put at its rank (R70); the lit values are formed anew (R167). -/
def State.updateCheckin (s : State) (w : Checkin) (c : Call) : State :=
  let new := { c with cls := w.cls, travel := min w.travel Config.maxTravel, elapsed := 0 }
  let others := s.pu.calls.filter fun d => d.tram != c.tram
  let s := ({ s with pu := { s.pu with calls := insertRanked new others } }).refreshOutputs
  if c.state = .extend then s.moveHold new else s

/-- What follows an accepted check-in: an activity event and an evaluation (R68, R76). -/
def State.checkedIn (s : State) : State := s.activity.evaluateCalls

/-- Whether a check-in's tram id, class and group lie in their ranges (R68). -/
def checkinFits (w : Checkin) : Bool :=
  w.tram != 0 && decide (w.tram < 65535) && decide (1 ≤ w.cls ∧ w.cls ≤ 3)

/-- A check-in for a tram that has no call (R69). -/
def State.answerNewCall (s : State) (w : Checkin) (g : GroupId) : Reply :=
  if s.pu.calls.length < Config.maxCalls then (s.insertCall w g).checkedIn.accept
  else
    match s.evictable? with
    | some v =>
      if w.cls < v.cls then (((s.removeCall v).post .callEvicted v.tram).insertCall w g).checkedIn.accept
      else s.refuse .listFull
    | none => s.refuse .listFull

/-- CALL_CHECKIN at the Priority Unit (R68). -/
def State.answerCallCheckin (s : State) (w : Checkin) : Reply :=
  match groupId? w.group with
  | none => s.refuse .outOfRange
  | some g =>
    if !checkinFits w || s.kind g != .tram then s.refuse .outOfRange
    else if !s.mc.mode.isSignal then s.refuse .wrongMode
    else
      match s.call? w.tram with
      | some c => if c.group = g then (s.updateCheckin w c).checkedIn.accept else s.refuse .inUse
      | none => s.answerNewCall w g

/-- CALL_CHECKIN (R68). -/
def execCallCheckin (p : Port) (w : Checkin) (s : State) : Answer :=
  .next (s.takeRequest p .callCheckin true fun s => s.answerCallCheckin w)

/-! ## Checkout and cancel (R71) -/

/-- CALL_CHECKOUT and CALL_CANCEL at the Priority Unit: the call is removed (R71, R73). -/
def State.answerWithdraw (s : State) (tram : Nat) : Reply :=
  match s.call? tram with
  | some c => (s.removeCall c).accept
  | none => s.refuse .noSuchCall

/-- CALL_CHECKOUT (R71). -/
def execCallCheckout (p : Port) (tram : Nat) (s : State) : Answer :=
  .next (s.takeRequest p .callCheckout true fun s => s.answerWithdraw tram)

/-- CALL_CANCEL (R71). -/
def execCallCancel (p : Port) (tram : Nat) (s : State) : Answer :=
  .next (s.takeRequest p .callCancel true fun s => s.answerWithdraw tram)

end Sys2Proof.Machine
end

