-- ==== Sys2Proof/Machine/Validation.lean ====
section
/-! DEFINITION. Validation at SWITCH_ON: the checks V1 to V9 in order, each with its scan (R29 to R33). -/

namespace Sys2Proof.Machine

/-- The kind of an offending item (R29). -/
inductive ItemKind where
  | stage
  | pair
  | group
  | startStage
  | restStage
  | sequence
  | output
  | detector
  deriving DecidableEq, Repr

/-- The code of an item kind (11.3). -/
def ItemKind.code : ItemKind → Nat
  | .stage => 1
  | .pair => 2
  | .group => 3
  | .startStage => 4
  | .restStage => 5
  | .sequence => 6
  | .output => 7
  | .detector => 8

/-- A failing check with its offending item, as CONFIG_INVALID carries it (R29). -/
structure ConfigFailure where
  check : Nat
  item : ItemKind
  first : Nat
  second : Nat
  deriving DecidableEq, Repr

/-- Whether a stage is configured (R26). -/
def State.configured (s : State) (st : StageId) : Bool := (s.tables.stage st).isSome

/-- The pairs of groups in the scan order of V2: c ascending and, for each c, g ascending (R30). -/
def groupPairs : List (GroupId × GroupId) := groupIds.flatMap fun c => groupIds.map fun g => (c, g)

/-- Whether V1 fails at a group of a stage's set: it is UNUSED, or conflicts with a lower-numbered group of the set
(R30). -/
def State.badMember (s : State) (set : GroupSet) (g : GroupId) : Bool :=
  inSet g set &&
    (s.kind g == .unused ||
      groupIds.any fun c => decide (c.val < g.val) && inSet c set && s.conflictsEither c g)

/-- V1 (R30). -/
def State.checkV1 (s : State) : Option ConfigFailure :=
  stageSlots.findSome? fun i : Fin 16 =>
    match s.tables.stages[i] with
    | some set => (groupIds.find? (s.badMember set)).map fun g => ⟨1, .stage, i.val + 1, g.val + 1⟩
    | none => none

/-- Whether V2 fails at a pair (R30). -/
def State.badPair (s : State) (c g : GroupId) : Bool :=
  if c = g then s.conflicts c g
  else (s.conflicts c g && (s.kind c == .unused || s.kind g == .unused)) || s.conflicts c g != s.conflicts g c

/-- A check over the pairs in V2's order. -/
def pairCheck (n : Nat) (bad : GroupId → GroupId → Bool) : Option ConfigFailure :=
  (groupPairs.find? fun p => bad p.1 p.2).map fun p => ⟨n, .pair, p.1.val + 1, p.2.val + 1⟩

/-- V2 (R30). -/
def State.checkV2 (s : State) : Option ConfigFailure := pairCheck 2 s.badPair

/-- Whether V3 fails at a pair: I(c→g) is below the clear time of c (R31). -/
def State.shortClear (s : State) (c g : GroupId) : Bool :=
  match s.intergreen c g with
  | some i => decide (i < (s.cfg c).clearTime)
  | none => false

/-- V3 (R31). -/
def State.checkV3 (s : State) : Option ConfigFailure := pairCheck 3 s.shortClear

/-- Whether V4 fails at a pair: g is VEHICLE and I(c→g) is below its prepare time (R31). -/
def State.shortPrepare (s : State) (c g : GroupId) : Bool :=
  match s.intergreen c g with
  | some i => s.kind g == .vehicle && decide (i < (s.cfg g).prepareTime)
  | none => false

/-- V4 (R31). -/
def State.checkV4 (s : State) : Option ConfigFailure := pairCheck 4 s.shortPrepare

/-- Whether V5 fails at a group: a TRAM group whose priority stage is 0, not configured, or does not hold it (R32). -/
def State.badPriority (s : State) (g : GroupId) : Bool :=
  let st := s.tables.junction.priority[g]
  s.kind g == .tram && (st == 0 || !s.configured st || !inSet g (s.stageSet st))

/-- V5 (R32). -/
def State.checkV5 (s : State) : Option ConfigFailure :=
  (groupIds.find? s.badPriority).map fun g => ⟨5, .group, g.val + 1, 0⟩

/-- Whether V6 fails at a position (from 0) of the standby sequence (R32). -/
def State.badEntry (s : State) (i : Nat) : Bool :=
  let seq := s.tables.junction.sequence
  let st := seq.getD i 0
  st == 0 || !s.configured st ||
    (decide (2 ≤ seq.length) && st == seq.getD (if i + 1 = seq.length then 0 else i + 1) 0)

/-- V6: the start stage, the rest stage, then the standby sequence (R32). -/
def State.checkV6 (s : State) : Option ConfigFailure :=
  let j := s.tables.junction
  if !s.configured j.startStage then some ⟨6, .startStage, j.startStage.val, 0⟩
  else if !s.configured j.restStage then some ⟨6, .restStage, j.restStage.val, 0⟩
  else
    ((List.range j.sequence.length).find? s.badEntry).map fun i =>
      ⟨6, .sequence, i + 1, (j.sequence.getD i 0).val⟩

/-- Whether V7 fails at a group: red-monitored, with no STOP-role channel (R33). -/
def State.unmonitored (s : State) (g : GroupId) : Bool :=
  (s.cfg g).redMonitored && !(outIds.any fun o : Fin 72 => s.tables.outputs[o].source == .groupRole g .stop)

/-- V7 (R33). -/
def State.checkV7 (s : State) : Option ConfigFailure :=
  (groupIds.find? s.unmonitored).map fun g => ⟨7, .group, g.val + 1, 0⟩

/-- Whether a kind has a lamp role (R3). -/
def Kind.hasRole : Kind → Role → Bool
  | .unused, _ => false
  | .pedestrian, .warn => false
  | _, _ => true

/-- The group that V8 reports at an output channel: one whose kind lacks the role that the channel's source names (R33). -/
def State.badSource (s : State) (o : OutId) : Option GroupId :=
  match s.tables.outputs[o].source with
  | .groupRole g r => if (s.kind g).hasRole r then none else some g
  | .off | .on | .flasherA | .flasherB | .callAck _ | .detector _ => none

/-- V8 (R33). -/
def State.checkV8 (s : State) : Option ConfigFailure :=
  outIds.findSome? fun o => (s.badSource o).map fun g => ⟨8, .output, o.val + 1, g.val + 1⟩

/-- The group that V9 reports at a set: its first UNUSED one (R33). -/
def State.unusedIn (s : State) (set : GroupSet) : Option GroupId :=
  groupIds.find? fun g => inSet g set && s.kind g == .unused

/-- V9 (R33). -/
def State.checkV9 (s : State) : Option ConfigFailure :=
  chanIds.findSome? fun ch : Fin 32 =>
    ((s.unusedIn s.tables.detectors[ch].demandSet) <|> (s.unusedIn s.tables.detectors[ch].extensionSet)).map fun g =>
      ⟨9, .detector, ch.val + 1, g.val + 1⟩

/-- Validation: the first failing check with its first offending item, or none where every check passes (R29). -/
def State.validate (s : State) : Option ConfigFailure :=
  s.checkV1 <|> s.checkV2 <|> s.checkV3 <|> s.checkV4 <|> s.checkV5 <|> s.checkV6 <|> s.checkV7 <|> s.checkV8 <|>
    s.checkV9

end Sys2Proof.Machine
end

