-- ==== Sys2Proof/Machine/ModeRequests.lean ====
section
/-! DEFINITION. The requests that the Mode Controller judges (05_junction_modes_and_control_authority.md): switching, fault
reset, restart, stage demands, supervision, authority and plan selection. For each, the block's answer to it and the
meaning of its row. That a port's list holds the request is judged before (R186). -/

namespace Sys2Proof.Machine

/-- Whether a request from a port needs a central permission that it has not (R115): port C with permission NONE. -/
def State.barred (s : State) (p : Port) : Bool := p == .c && s.tables.junction.permission == .none

/-- Whether a request from a port needs central permission FULL and has it not (R115). -/
def State.barredFull (s : State) (p : Port) : Bool := p == .c && s.tables.junction.permission != .full

/-! ## SWITCH_ON -/

/-- The payload of a CONFIG_INVALID response after the result (R196). -/
def ConfigFailure.content (f : ConfigFailure) : List Byte :=
  [byte f.check, byte f.item.code, byte f.first, byte f.second]

/-- The modes in which a port's SWITCH_ON is taken (R101). -/
def switchOnTaken : Port → Mode → Bool
  | .l, .dark | .l, .flash | .c, .flash => true
  | _, _ => false

/-- SWITCH_ON at the Mode Controller (R101, R102). -/
def State.answerSwitchOn (s : State) (p : Port) : Reply :=
  if s.barredFull p then s.refuse .notPermitted
  else if !switchOnTaken p s.mc.mode then s.refuse .wrongMode
  else
    match s.validate with
    | some f => { state := s, result := .configInvalid, content := [f.content] }
    | none => (s.enterStartup p).accept

/-- SWITCH_ON (R101). -/
def execSwitchOn (p : Port) (s : State) : Answer :=
  .next (s.takeRequest p .switchOn true fun s => s.answerSwitchOn p)

/-! ## SWITCH_FLASH, SWITCH_OFF, FAULT_RESET -/

/-- The closing destination replaced in CLOSING (R106, R107). -/
def State.redirectClosing (s : State) (o : Order) : State := { s with mc := { s.mc with closingDest := some o } }

/-- SWITCH_FLASH at the Mode Controller (R106). -/
def State.answerSwitchFlash (s : State) (p : Port) : Reply :=
  if s.barredFull p then s.refuse .notPermitted
  else
    match s.mc.mode with
    | .startup | .localMode | .centralMode | .standby => (s.enterClosing .flash).accept
    | .closing => (s.redirectClosing .flash).accept
    | .flash => s.accept
    | .dark => if p = .l then s.enterFlash.accept else s.refuse .wrongMode
    | .faultFlash => s.refuse .wrongMode

/-- SWITCH_FLASH (R106). -/
def execSwitchFlash (p : Port) (s : State) : Answer :=
  .next (s.takeRequest p .switchFlash true fun s => s.answerSwitchFlash p)

/-- SWITCH_OFF at the Mode Controller (R107). -/
def State.answerSwitchOff (s : State) : Reply :=
  match s.mc.mode with
  | .startup | .localMode | .centralMode | .standby => (s.enterClosing .dark).accept
  | .closing => (s.redirectClosing .dark).accept
  | .flash => s.enterDark.accept
  | .dark => s.accept
  | .faultFlash => s.refuse .wrongMode

/-- SWITCH_OFF (R107). -/
def execSwitchOff (p : Port) (s : State) : Answer :=
  .next (s.takeRequest p .switchOff true fun s => s.answerSwitchOff)

/-- FAULT_RESET at the Mode Controller (R111). -/
def State.answerFaultReset (s : State) : Reply :=
  if s.mc.mode = .faultFlash ∧ s.lm.latestConflict = false then s.enterFlash.accept else s.refuse .wrongMode

/-- FAULT_RESET (R111). -/
def execFaultReset (p : Port) (s : State) : Answer :=
  .next (s.takeRequest p .faultReset true fun s => s.answerFaultReset)

/-! ## RESTART -/

/-- The Detector Logic after a RESTART: latches clear, stretch timers idle, counts and totals kept (R155). -/
def DetectorLogic.restarted (d : DetectorLogic) : DetectorLogic :=
  { d with latch := 0, stretch := Vector.replicate 32 none }

/-- The Mode Controller after a RESTART: the plans are kept (R98). -/
def ModeControl.restarted (m : ModeControl) : ModeControl :=
  { ModeControl.reset with startCause := .restart, activePlan := m.activePlan, pendingPlan := m.pendingPlan }

/-- Every block at the value of its own rule for a RESTART (R112). The tables, the channels and their visits, the counts,
the flasher and the straps are kept. Port L's slot stays BUSY (R184). -/
def State.restarted (s : State) : State :=
  let ports := Ports.reset s.straps.cen StartCause.restart.code
  let s := { s with
    groups := Vector.replicate 24 GroupRun.reset, arb := Arbiter.reset, mc := s.mc.restarted, pu := PriorityUnit.reset,
    sb := Standby.reset, det := s.det.restarted, lm := LampMonitor.reset s.now,
    out := { s.out with force := Vector.replicate 72 none },
    ports := { ports with l := { ports.l with busy := true } }, work := Work.idle }
  let s := { s with det := { s.det with demand := s.demandNow, extension := s.extensionNow } }
  s.refreshOutputs

/-- RESTART at every block (R112). -/
def State.answerRestart (s : State) : Reply :=
  if s.mc.mode.isIdle then s.restarted.accept else s.refuse .wrongMode

/-- RESTART (R112). -/
def execRestart (p : Port) (s : State) : Answer :=
  .next (s.takeRequest p .restart true fun s => s.answerRestart)

/-! ## STAGE_DEMAND -/

/-- Whether a port holds the authority that a STAGE_DEMAND needs in a mode (R119). -/
def demandAuthority : Port → Mode → Bool
  | .l, .startup | .l, .localMode | .l, .standby | .c, .centralMode => true
  | _, _ => false

/-- An accepted STAGE_DEMAND (R50, R119): the return records become stale (R91), the demand is stored, the port refreshed,
the target recomputed; in STANDBY authority moves to LOCAL. -/
def State.takeDemand (s : State) (p : Port) (st : StageId) : State :=
  let s := s.markStale
  match s.mc.mode with
  | .standby => (s.enterLocal (some st)).refreshPort p
  | .dark | .flash | .faultFlash | .startup | .localMode | .centralMode | .closing =>
    (({ s with arb := { s.arb with demand := some st, returnTarget := none } }).refreshPort p).recompute false

/-- STAGE_DEMAND at the Mode Controller and the Arbiter (R119, R50, R113). -/
def State.answerStageDemand (s : State) (p : Port) (stage : Nat) : Reply :=
  if s.barred p then s.refuse .notPermitted
  else if s.mc.mode.isIdle || s.mc.mode == .closing then s.refuse .wrongMode
  else if !demandAuthority p s.mc.mode then (s.refreshPort p).refuse .notAuthority
  else
    match stageId? stage with
    | some st => if s.configured st then (s.takeDemand p st).accept else s.refuse .outOfRange
    | none => s.refuse .outOfRange

/-- STAGE_DEMAND (R119). -/
def execStageDemand (p : Port) (stage : Nat) (s : State) : Answer :=
  .next (s.takeRequest p .stageDemand true fun s => s.answerStageDemand p stage)

/-! ## REFRESH, SELECT_PLAN -/

/-- REFRESH at the Mode Controller (R113). -/
def State.answerRefresh (s : State) (p : Port) : Reply :=
  if s.barred p then s.refuse .notPermitted else (s.refreshPort p).accept

/-- REFRESH (R113). -/
def execRefresh (p : Port) (s : State) : Answer :=
  .next (s.takeRequest p .refresh true fun s => s.answerRefresh p)

/-- Whether a port's SELECT_PLAN is taken in a mode (R121). -/
def planAuthority : Port → Mode → Bool
  | .l, .centralMode | .l, .standby => false
  | .l, _ => true
  | .c, .centralMode => true
  | _, _ => false

/-- SELECT_PLAN at the Mode Controller (R121). -/
def State.answerSelectPlan (s : State) (p : Port) (plan : Nat) : Reply :=
  if s.barred p then s.refuse .notPermitted
  else if !planAuthority p s.mc.mode then s.refuse .notAuthority
  else
    match planId? plan with
    | some n => ({ s with mc := { s.mc with pendingPlan := n } }).accept
    | none => s.refuse .outOfRange

/-- SELECT_PLAN (R121). -/
def execSelectPlan (p : Port) (plan : Nat) (s : State) : Answer :=
  .next (s.takeRequest p .selectPlan true fun s => s.answerSelectPlan p plan)

/-! ## Authority -/

/-- LOCAL_RECLAIM at the Mode Controller (R118). -/
def State.answerLocalReclaim (s : State) : Reply :=
  match s.mc.mode with
  | .centralMode => ((s.enterLocal none).refreshPort .l).accept
  | .localMode => (s.refreshPort .l).accept
  | .dark | .flash | .faultFlash | .startup | .standby | .closing => s.refuse .wrongMode

/-- LOCAL_RECLAIM (R118). -/
def execLocalReclaim (p : Port) (s : State) : Answer :=
  .next (s.takeRequest p .localReclaim true fun s => s.answerLocalReclaim)

/-- TAKE_CONTROL at the Mode Controller (R116). -/
def State.answerTakeControl (s : State) : Reply :=
  if s.barred .c then s.refuse .notPermitted
  else
    match s.mc.mode with
    | .localMode | .standby => (s.enterCentral.refreshPort .c).accept
    | .centralMode => (s.refreshPort .c).accept
    | .dark | .flash | .faultFlash | .startup | .closing => s.refuse .wrongMode

/-- TAKE_CONTROL (R116). -/
def execTakeControl (p : Port) (s : State) : Answer :=
  .next (s.takeRequest p .takeControl true fun s => s.answerTakeControl)

/-- RELEASE_CONTROL at the Mode Controller (R117). -/
def State.answerReleaseControl (s : State) : Reply :=
  if s.barred .c then s.refuse .notPermitted
  else if s.mc.mode = .centralMode then s.fallThrough.accept
  else s.refuse .wrongMode

/-- RELEASE_CONTROL (R117). -/
def execReleaseControl (p : Port) (s : State) : Answer :=
  .next (s.takeRequest p .releaseControl true fun s => s.answerReleaseControl)

end Sys2Proof.Machine
end

