-- ==== Sys2Proof/Machine/Scanner.lean ====
section
/-! DEFINITION. The Loop Scanner (07_loop_scanning_and_channel_states.md): the banks and their measurement engines, the
classification and judging of a measurement, and contact samples. -/

namespace Sys2Proof.Machine

/-! ## Banks and visits (R133, R137) -/

/-- The bank of a channel: A 1 to 8, B 9 to 16, C 17 to 24, D 25 to 32. -/
def bankOf (ch : ChanId) : BankId := ⟨ch.val / 8, by omega⟩

/-- The eight channels of a bank in ascending order. -/
def bankChannels (b : BankId) : List ChanId := (List.finRange 8).map fun i => ⟨b.val * 8 + i.val, by omega⟩

/-- The bank record of a bank. -/
def State.bank (s : State) (b : BankId) : BankConfig := s.tables.banks[b]

/-- Whether a channel is enabled (R136). -/
def State.chanEnabled (s : State) (ch : ChanId) : Bool := s.tables.detectors[ch].enabled

/-- The channel that the next visit goes to (R137): the lowest enabled channel of the bank above one just visited, else the
lowest enabled channel; none where no channel is enabled or the bank is a contact bank. -/
def State.nextVisit (s : State) (b : BankId) (after : Option ChanId) : Option Visit :=
  match (s.bank b).mode with
  | .contact => none
  | .loop =>
    let enabled := (bankChannels b).filter s.chanEnabled
    let above := match after with
      | some ch => enabled.filter fun i => decide (ch.val < i.val)
      | none => []
    (above ++ enabled).head?.map fun ch => { channel := ch, nc := (s.bank b).nc }

/-- The engine of a bank starts its next visit, or becomes idle (R137). -/
def State.startVisit (s : State) (b : BankId) (after : Option ChanId) : State :=
  { s with engines := s.engines.set b (s.nextVisit b after) }

/-- The start state of a channel in a bank mode (R136). -/
def BankMode.startState : BankMode → ChanState
  | .loop => .untuned
  | .contact => .vacant

/-- A channel measurement record with its fields cleared and a state entered; the live fields are kept (R136). -/
def Channel.cleared (c : Channel) (st : ChanState) : Channel :=
  { c with
    state := st, fault := none, baseline := none, lastD := 0, confirm := none, faultRun := none, recovery := 0,
    occupied := 0 }

/-! ## Classification (R140) -/

/-- What a measurement is classified as (R140). -/
inductive Measured where
  | candidate (c : FaultClass)
  | inBand (p : Nat)
  deriving DecidableEq, Repr

/-- Tests 1 and 2 of R140: OPEN and SHORT, on a period count or no oscillation, with the visit's cycle count. -/
def classifyBand (nc : Nat) : Option Nat → Measured
  | none => .candidate .openLoop
  | some p =>
    if p * 12000 > nc * 40000000 then .candidate .openLoop
    else if p * 150000 < nc * 40000000 then .candidate .shortLoop
    else .inBand p

/-- Test 3 of R140: JUMP, against the channel's own baseline. -/
def isJump (baseline : Option Nat) (p : Nat) : Bool :=
  match baseline with
  | some b => decide (p > 2 * b) || decide (2 * p < b)
  | none => false

/-- A measurement classified for a channel (R140); in FAULT, tests 1 and 2 alone (R142). -/
def classify (c : Channel) (nc : Nat) (count : Option Nat) : Measured :=
  match classifyBand nc count with
  | .candidate f => .candidate f
  | .inBand p =>
    if (c.state = .vacant ∨ c.state = .occupied) ∧ isJump c.baseline p = true then .candidate .jump else .inBand p

/-! ## Judging one measurement (R141 to R147) -/

/-- A fault candidate in UNTUNED, VACANT or OCCUPIED (R141): the third in a row of one class enters FAULT. -/
def Channel.faultCandidate (c : Channel) (f : FaultClass) : Channel :=
  let n := match c.faultRun with
    | some (f', n) => if f' = f then n + 1 else 1
    | none => 1
  if n ≥ 3 then
    { c with
      state := .fault, fault := some f, faultRun := none, confirm := none, recovery := 0, baseline := none, occupied := 0 }
  else { c with faultRun := some (f, n), confirm := none }

/-- A measurement at a channel in FAULT (R142): the eighth in-band one in a row retunes it. -/
def Channel.recover (c : Channel) : Measured → Channel
  | .candidate _ => { c with recovery := 0 }
  | .inBand p =>
    if c.recovery + 1 ≥ 8 then
      { c with state := .vacant, baseline := some p, fault := none, recovery := 0, lastD := 0 }
    else { c with recovery := c.recovery + 1 }

/-- An in-band measurement at an UNTUNED channel tunes it (R143). -/
def Channel.tune (c : Channel) (p : Nat) : Channel :=
  { c with state := .vacant, baseline := some p, lastD := 0, confirm := none, faultRun := none }

/-- The shift of a measurement from a baseline in ppm, truncated toward zero (R144). -/
def shift (b p : Nat) : Int := (((b : Int) - p) * 1000000).tdiv b

/-- The off threshold of shift (R144). -/
def offThreshold (on : Nat) : Nat := on * 3 / 4

/-- The tracking step of a baseline: a sixteenth of the way toward P, truncated toward zero (R145). -/
def tracked (b p : Nat) : Nat := ((b : Int) - ((b : Int) - p).tdiv 16).toNat

/-- The candidate and the baseline that a shift gives at a VACANT channel (R145). -/
def judgeVacant (on b p : Nat) (d : Int) : Option Candidate × Nat :=
  if (on : Int) ≤ d then (some .occupied, b)
  else if (offThreshold on : Int) ≤ d then (none, b)
  else if d ≤ -(on : Int) then (some .vacant, p)
  else (some .vacant, tracked b p)

/-- The candidate that a shift gives at an OCCUPIED channel (R145). -/
def judgeOccupied (on : Nat) (d : Int) : Candidate := if (offThreshold on : Int) ≤ d then .occupied else .vacant

/-- The confirmation run advanced by a candidate for a state the channel is not in (R146). -/
def advanceRun (run : Option (Candidate × Nat)) (c : Candidate) : Nat :=
  match run with
  | some (c', n) => if c' = c then n + 1 else 1
  | none => 1

/-- A channel's confirmation run after a candidate, and its change of state when the run reaches K (R146). -/
def Channel.confirmed (c : Channel) (cand : Option Candidate) (k : Nat) : Channel :=
  match c.state, cand with
  | .vacant, some .occupied =>
    if advanceRun c.confirm .occupied ≥ k then { c with state := .occupied, confirm := none, occupied := 0 }
    else { c with confirm := some (.occupied, advanceRun c.confirm .occupied) }
  | .occupied, some .vacant =>
    if advanceRun c.confirm .vacant ≥ k then { c with state := .vacant, confirm := none, occupied := 0 }
    else { c with confirm := some (.vacant, advanceRun c.confirm .vacant) }
  | _, _ => { c with confirm := none }

/-- Whether the presence limit of an OCCUPIED channel has been reached (R147, R149). -/
def Channel.overstayed (c : Channel) : Bool :=
  c.state == .occupied && c.presence != 0 && decide (10 * c.presence ≤ wholeDs c.occupied)

/-- The presence limit of a loop channel: the measurement is absorbed into the baseline (R147). -/
def Channel.absorb (c : Channel) (p : Nat) : Channel :=
  { c with
    state := .vacant, baseline := some p, confirm := none, faultRun := none, occupied := 0, lastD := 0 }

/-- An in-band measurement at a VACANT or OCCUPIED channel judged by its shift (R145, R146). -/
def Channel.detect (c : Channel) (b p k : Nat) : Channel :=
  let d := shift b p
  match c.state with
  | .vacant =>
    let (cand, b') := judgeVacant c.sensitivity b p d
    ({ c with lastD := d, faultRun := none, baseline := some b' }).confirmed cand k
  | .occupied => ({ c with lastD := d, faultRun := none }).confirmed (some (judgeOccupied c.sensitivity d)) k
  | .disabled | .untuned | .fault => c

/-- A channel after a completed measurement (R140). A VACANT or OCCUPIED loop channel has a baseline. -/
def Channel.measured (c : Channel) (nc k : Nat) (count : Option Nat) : Channel :=
  match c.state, classify c nc count with
  | .disabled, _ => c
  | .fault, m => c.recover m
  | _, .candidate f => c.faultCandidate f
  | .untuned, .inBand p => c.tune p
  | _, .inBand p => if c.overstayed then c.absorb p else c.detect (c.baseline.getD p) p k

/-- The events that go with a loop channel's change (R150): DET_FAULT, DET_CLEAR, PRESENCE_LIMIT. -/
def State.postChannel (s : State) (ch : ChanId) (old new : Channel) (limit : Bool) : State :=
  if new.state = .fault ∧ old.state ≠ .fault then s.post .detFault (ch.val + 1)
  else if old.state = .fault ∧ new.state = .vacant then s.post .detClear (ch.val + 1)
  else if limit && new.state == .vacant then s.post .presenceLimit (ch.val + 1)
  else s

/-- Whether a measurement is taken by the presence limit (R147): in band, at an OCCUPIED channel that has overstayed. -/
def Channel.limited (c : Channel) (nc : Nat) (count : Option Nat) : Bool :=
  c.overstayed && match classify c nc count with
    | .inBand _ => true
    | .candidate _ => false

/-- The completion of the visit in flight at a bank, with its count (R140); the next visit starts at that moment (R137). -/
def State.completeVisit (s : State) (b : BankId) (count : Option Nat) : State :=
  match s.engines[b] with
  | none => s
  | some v =>
    let old := s.chans[v.channel]
    let new := old.measured v.nc (s.bank b).k count
    let s := s.postChannel v.channel old new (old.limited v.nc count)
    (s.setChannel v.channel new false).startVisit b (some v.channel)

/-! ## Contact banks (R149) -/

/-- A STUCK recovery sample (R149). -/
def Channel.stuckSample (c : Channel) (closed : Bool) (k : Nat) : Channel :=
  if closed then { c with recovery := 0 }
  else if c.recovery + 1 ≥ k then { c with state := .vacant, fault := none, recovery := 0 }
  else { c with recovery := c.recovery + 1 }

/-- The presence limit of a contact channel: FAULT with class STUCK (R149). -/
def Channel.stick (c : Channel) : Channel :=
  { c with state := .fault, fault := some .stuck, confirm := none, recovery := 0, occupied := 0 }

/-- A contact sample at one channel, its presence limit judged before (R149). -/
def Channel.sampled (c : Channel) (closed : Bool) (k : Nat) : Channel :=
  match c.state with
  | .vacant => c.confirmed (if closed then some .occupied else some .vacant) k
  | .occupied => c.confirmed (if closed then some .occupied else some .vacant) k
  | .fault => c.stuckSample closed k
  | .disabled | .untuned => c

/-- One channel's part of a contact sample, with its events and reports (R149, R150). A channel that enters FAULT with class
STUCK and recovers in the same sample, as it can at K = 1, makes both reports to Detector Logic, and the Standby Unit takes
what they change only after the whole sample (DESIGN CHOICE, notes/assumptions/36.md). -/
def State.sampleContact (s : State) (k : Nat) (ch : ChanId) (closed : Bool) : State :=
  if !s.chanEnabled ch then s
  else
    let old := s.chans[ch]
    let s :=
      if old.overstayed then (s.postChannel ch old old.stick false).setChannel ch old.stick false else s
    let mid := s.chans[ch]
    let new := mid.sampled closed k
    (s.postChannel ch mid new false).setChannel ch new false

/-- A sample of a CONTACT bank: its eight inputs taken at one instant; an input held low is closed (R149). The channels are
taken in ascending order, so the highest that enters or leaves FAULT is the detail of its event (R150; the order is a DESIGN
CHOICE, notes/assumptions/28.md). Detector Logic takes each report at once, while the Standby Unit judges its step after all
eight channels, on the demand and extension that the whole sample leaves, and not between two of them (R127, R157, R159;
DESIGN CHOICE, notes/assumptions/36.md). -/
def State.sampleBank (s : State) (b : BankId) (levels : BitVec 8) : State :=
  match (s.bank b).mode with
  | .loop => s
  | .contact =>
    (bankChannels b).foldl
      (fun t ch => t.sampleContact (s.bank b).k ch (!levels.getLsbD (ch.val % 8))) s

/-! ## Writes that act on the channels (R134, R136, R154) -/

/-- Every enabled channel of a bank restarts in the start state of its mode, and the engine begins anew (R134). As at a
contact sample, the Standby Unit judges its step after all of them (DESIGN CHOICE, notes/assumptions/36.md). -/
def State.restartBank (s : State) (b : BankId) : State :=
  let st := (s.bank b).mode.startState
  ((bankChannels b).foldl
    (fun t ch => if t.chanEnabled ch then t.setChannel ch (t.chans[ch].cleared st) true else t) s).startVisit b none

/-- The runs of every channel of a bank that a change of K restarts (R134). -/
def Channel.restartRuns (c : Channel) : Channel :=
  { c with confirm := none, recovery := if c.fault = some .stuck then 0 else c.recovery }

/-- A bank record replaced, with what the change does to the channels (R134). -/
def State.writeBankRecord (s : State) (b : BankId) (new : BankConfig) : State :=
  let old := s.bank b
  let s := { s with tables := { s.tables with banks := s.tables.banks.set b new } }
  if old.mode ≠ new.mode ∨ (old.nc ≠ new.nc ∧ new.mode = .loop) then s.restartBank b
  else if old.k ≠ new.k then
    { s with chans := Vector.ofFn fun ch : ChanId => if bankOf ch = b then s.chans[ch].restartRuns else s.chans[ch] }
  else s

/-- What a change of a channel's enabled field does to the engine of its bank (R137, R139): a visit to a channel that is
disabled is abandoned, and an idle engine visits a channel that is enabled at once. -/
def State.engineAfterWrite (s : State) (ch : ChanId) : State :=
  match s.engines[bankOf ch] with
  | none => s.startVisit (bankOf ch) none
  | some v => if v.channel = ch ∧ s.chanEnabled ch = false then s.startVisit (bankOf ch) (some ch) else s

/-- A channel enters its start state or DISABLED at a write that changes its enabled field (R136, R154). -/
def State.changeEnabled (s : State) (ch : ChanId) : State :=
  let st := if s.chanEnabled ch then (s.bank (bankOf ch)).mode.startState else .disabled
  (s.setChannel ch (s.chans[ch].cleared st) true).engineAfterWrite ch

end Sys2Proof.Machine
end

