-- ==== Sys2Proof/Machine/ConfigRequests.lean ====
section
/-! DEFINITION. The requests that write and read the tables, and FORCE_OUTPUT: for each, the answer of the Configuration
Store with what the write does to the running state at once, and the meaning of its row. -/

namespace Sys2Proof.Machine

/-! ## WRITE_GROUP -/

/-- The state that a mode outside running gives a group of a kind (R4). -/
def Mode.idleState (m : Mode) (k : Kind) : GroupState :=
  if m = .dark then .dark else Order.stateFor .flash k

/-- A group moved to the state that the present mode gives its new kind (R4). -/
def State.moveToKind (s : State) (g : GroupId) (k : Kind) : State :=
  let old := (s.grp g).state
  let new := s.mc.mode.idleState k
  if old = new then s else (s.setGrp g { s.grp g with state := new }).reportChange g old

/-- An accepted WRITE_GROUP (R4): the configuration part is replaced; a change of kind moves the running state; a group made
UNUSED loses its latch (R155); the demand, the lit values and the red-out flag are judged (R157, R167, R175). -/
def State.storeGroup (s : State) (g : GroupId) (c : GroupConfig) : State :=
  let old := s.kind g
  let s := { s with tables := { s.tables with groups := s.tables.groups.set g c } }
  let s := if old = c.kind then s else s.moveToKind g c.kind
  let s := (s.refreshOutputs).judgeRedOut g
  if c.kind = .unused then s.clearLatch g else s.judgeDemand

/-- WRITE_GROUP at the Configuration Store (R4). -/
def State.answerWriteGroup (s : State) (w : GroupWrite) : Reply :=
  if !s.mc.mode.isIdle then s.refuse .wrongMode
  else
    match groupId? w.group, groupConfig? w with
    | some g, some c => (s.storeGroup g c).accept
    | _, _ => s.refuse .outOfRange

/-- WRITE_GROUP (R4). -/
def execWriteGroup (p : Port) (w : GroupWrite) (s : State) : Answer :=
  .next (s.takeRequest p .writeGroup true fun s => s.answerWriteGroup w)

/-! ## WRITE_CONFLICT_ROW, WRITE_STAGE -/

/-- A conflict row replaced (R25). -/
def State.storeRow (s : State) (c : GroupId) (row : Vector (Option Nat) 24) : State :=
  { s with tables := { s.tables with matrix := s.tables.matrix.set c row } }

/-- WRITE_CONFLICT_ROW at the Configuration Store (R25). -/
def State.answerWriteConflictRow (s : State) (group : Nat) (row : Vector Nat 24) : Reply :=
  if !s.mc.mode.isIdle then s.refuse .wrongMode
  else
    match groupId? group, conflictRow? row with
    | some c, some r => (s.storeRow c r).accept
    | _, _ => s.refuse .outOfRange

/-- WRITE_CONFLICT_ROW (R25). -/
def execWriteConflictRow (p : Port) (group : Nat) (row : Vector Nat 24) (s : State) : Answer :=
  .next (s.takeRequest p .writeConflictRow true fun s => s.answerWriteConflictRow group row)

/-- A stage of the stage table named by its number 1 to 16 (R26). -/
def stageSlot? (n : Nat) : Option (Fin 16) := if h : 1 ≤ n ∧ n ≤ 16 then some ⟨n - 1, by omega⟩ else none

/-- A stage of the stage table replaced (R26). -/
def State.storeStage (s : State) (i : Fin 16) (entry : Option GroupSet) : State :=
  { s with tables := { s.tables with stages := s.tables.stages.set i entry } }

/-- WRITE_STAGE at the Configuration Store (R26). -/
def State.answerWriteStage (s : State) (stage mark : Nat) (set : BitVec 32) : Reply :=
  if !s.mc.mode.isIdle then s.refuse .wrongMode
  else
    match stageSlot? stage, stageEntry? mark set with
    | some i, some e => (s.storeStage i e).accept
    | _, _ => s.refuse .outOfRange

/-- WRITE_STAGE (R26). -/
def execWriteStage (p : Port) (stage mark : Nat) (set : BitVec 32) (s : State) : Answer :=
  .next (s.takeRequest p .writeStage true fun s => s.answerWriteStage stage mark set)

/-! ## WRITE_JUNCTION -/

/-- An accepted WRITE_JUNCTION (R190): the record is replaced; permission NONE written in CENTRAL makes the fall-through
(R115, R117). -/
def State.storeJunction (s : State) (j : Junction) : State :=
  let s := { s with tables := { s.tables with junction := j } }
  if j.permission = .none ∧ s.mc.mode = .centralMode then s.fallThrough else s

/-- WRITE_JUNCTION at the Configuration Store (R190). -/
def State.answerWriteJunction (s : State) (w : JunctionWrite) : Reply :=
  match junctionRecord? w with
  | none => s.refuse .outOfRange
  | some j =>
    if !s.mc.mode.isIdle && !s.tables.junction.sameStages j then s.refuse .wrongMode else (s.storeJunction j).accept

/-- WRITE_JUNCTION (R190). -/
def execWriteJunction (p : Port) (w : JunctionWrite) (s : State) : Answer :=
  .next (s.takeRequest p .writeJunction true fun s => s.answerWriteJunction w)

/-! ## WRITE_OUTPUT, FORCE_OUTPUT -/

/-- The red-out judgement of the group of a STOP-role source that a write gave or took (R166, R175). -/
def State.judgeStopSource (s : State) : Source → State
  | .groupRole g .stop => s.judgeRedOut g
  | .groupRole _ .warn | .groupRole _ .go | .off | .on | .flasherA | .flasherB | .callAck _ | .detector _ => s

/-- An accepted WRITE_OUTPUT (R166): the record is replaced, the lit value is formed anew and its level loaded under the new
polarity (R167), and the groups whose STOP-role channels changed are judged (R175). -/
def State.storeOutput (s : State) (o : OutId) (c : OutputConfig) : State :=
  let old := s.tables.outputs[o].source
  let s := { s with tables := { s.tables with outputs := s.tables.outputs.set o c } }
  let s := (s.refreshOutput o).loadChannel o
  if old = c.source then s else (s.judgeStopSource old).judgeStopSource c.source

/-- WRITE_OUTPUT at the Configuration Store (R166). -/
def State.answerWriteOutput (s : State) (w : OutputWrite) : Reply :=
  if !s.mc.mode.isIdle then s.refuse .wrongMode
  else
    match outId? w.channel, outputConfig? w with
    | some o, some c => (s.storeOutput o c).accept
    | _, _ => s.refuse .outOfRange

/-- WRITE_OUTPUT (R166). -/
def execWriteOutput (p : Port) (w : OutputWrite) (s : State) : Answer :=
  .next (s.takeRequest p .writeOutput true fun s => s.answerWriteOutput w)

/-- A force placed or removed (R169). -/
def State.placeForce (s : State) (o : OutId) (f : Option Bool) : State :=
  ({ s with out := { s.out with force := s.out.force.set o f } }).refreshOutput o

/-- FORCE_OUTPUT at the Output Unit (R169). -/
def State.answerForceOutput (s : State) (channel force : Nat) : Reply :=
  if s.mc.mode ≠ .dark then s.refuse .wrongMode
  else
    match outId? channel, force? force with
    | some o, some f => (s.placeForce o f).accept
    | _, _ => s.refuse .outOfRange

/-- FORCE_OUTPUT (R169). -/
def execForceOutput (p : Port) (channel force : Nat) (s : State) : Answer :=
  .next (s.takeRequest p .forceOutput true fun s => s.answerForceOutput channel force)

/-! ## WRITE_DETECTOR, WRITE_BANK, WRITE_PLAN -/

/-- An accepted WRITE_DETECTOR (R153, R154): all nine fields are replaced; a change of enabled restarts or disables the
channel (R136); demand and extension are judged afresh. -/
def State.storeDetector (s : State) (ch : ChanId) (d : DetectorConfig) (sensitivity presence : Nat) : State :=
  let old := s.tables.detectors[ch].enabled
  let s := { s with
    tables := { s.tables with detectors := s.tables.detectors.set ch d }
    chans := s.chans.set ch { s.chans[ch] with sensitivity := sensitivity, presence := presence } }
  let s := if old = d.enabled then s else s.changeEnabled ch
  s.judgeDemand

/-- WRITE_DETECTOR at the Configuration Store (R153). -/
def State.answerWriteDetector (s : State) (w : DetectorWrite) : Reply :=
  match chanId? w.channel, detectorConfig? w with
  | some ch, some d =>
    if !s.mc.mode.isIdle && !s.tables.detectors[ch].sameConfig d then s.refuse .wrongMode
    else (s.storeDetector ch d w.sensitivity w.presence).accept
  | _, _ => s.refuse .outOfRange

/-- WRITE_DETECTOR (R153). -/
def execWriteDetector (p : Port) (w : DetectorWrite) (s : State) : Answer :=
  .next (s.takeRequest p .writeDetector true fun s => s.answerWriteDetector w)

/-- WRITE_BANK at the Configuration Store (R134). -/
def State.answerWriteBank (s : State) (w : BankWrite) : Reply :=
  if !s.mc.mode.isIdle then s.refuse .wrongMode
  else
    match bankId? w.bank, bankConfig? w with
    | some b, some c => (s.writeBankRecord b c).accept
    | _, _ => s.refuse .outOfRange

/-- WRITE_BANK (R134). -/
def execWriteBank (p : Port) (w : BankWrite) (s : State) : Answer :=
  .next (s.takeRequest p .writeBank true fun s => s.answerWriteBank w)

/-- A plan record replaced (R191). -/
def State.storePlan (s : State) (n : PlanId) (c : Plan) : State :=
  { s with tables := { s.tables with plans := s.tables.plans.set n c } }

/-- WRITE_PLAN at the Configuration Store (R191). -/
def State.answerWritePlan (s : State) (w : PlanWrite) : Reply :=
  match planId? w.plan with
  | none => s.refuse .outOfRange
  | some n =>
    if n = s.mc.activePlan ∨ n = s.mc.pendingPlan then s.refuse .inUse
    else if planFits w then (s.storePlan n (planRecord w)).accept
    else s.refuse .outOfRange

/-- WRITE_PLAN (R191). -/
def execWritePlan (p : Port) (w : PlanWrite) (s : State) : Answer :=
  .next (s.takeRequest p .writePlan true fun s => s.answerWritePlan w)

/-! ## READ_TABLE -/

/-- READ_TABLE at the Configuration Store (R189). -/
def State.answerReadTable (s : State) (table index : Nat) : Reply :=
  match tableEntry? table index with
  | some e => s.acceptWith (s.tableContent e)
  | none => s.refuse .outOfRange

/-- READ_TABLE (R189). -/
def execReadTable (p : Port) (table index : Nat) (s : State) : Answer :=
  .next (s.takeRequest p .readTable true fun s => s.answerReadTable table index)

end Sys2Proof.Machine
end

