-- ==== Sys2Proof/Machine/ReadRequests.lean ====
section
/-! DEFINITION. The requests that read the running state, and the event requests (R97, R151, R162, R188, R193): for each,
the block's answer to it and the meaning of its row. -/

namespace Sys2Proof.Machine

/-- READ_STATUS (R188). -/
def State.answerReadStatus (s : State) : Reply := s.acceptWith s.statusContent

/-- READ_STATUS (R188). -/
def execReadStatus (p : Port) (s : State) : Answer :=
  .next (s.takeRequest p .readStatus true fun s => s.answerReadStatus)

/-- READ_DETECTORS at the Loop Scanner and Detector Logic, in three segments (R151, R197). -/
def State.answerReadDetectors (s : State) : Reply := { state := s, result := .ok, content := s.detectorSegments }

/-- READ_DETECTORS (R151). -/
def execReadDetectors (p : Port) (s : State) : Answer :=
  .next (s.takeRequest p .readDetectors true fun s => s.answerReadDetectors)

/-- Whether a port's READ_COUNTS may clear: port C, and port L while the strap disables port C (R162). -/
def State.mayClear (s : State) : Port → Bool
  | .c => true
  | .l => !s.straps.cen
  | .t => false

/-- Every count and occupancy total set to 0 (R162). -/
def State.clearCounts (s : State) : State :=
  { s with det := { s.det with count := Vector.replicate 32 0, total := Vector.replicate 32 0 } }

/-- READ_COUNTS at Detector Logic (R162); the values are taken before the clear. -/
def State.answerReadCounts (s : State) (p : Port) (clear : Nat) : Reply :=
  match yesNo? clear with
  | none => s.refuse .outOfRange
  | some false => s.acceptWith s.countsContent
  | some true =>
    if s.mayClear p then { state := s.clearCounts, result := .ok, content := [s.countsContent] }
    else s.refuse .notPermitted

/-- READ_COUNTS (R162). -/
def execReadCounts (p : Port) (clear : Nat) (s : State) : Answer :=
  .next (s.takeRequest p .readCounts true fun s => s.answerReadCounts p clear)

/-- READ_CALLS at the Priority Unit (R97). -/
def State.answerReadCalls (s : State) : Reply := s.acceptWith s.callsContent

/-- READ_CALLS (R97). -/
def execReadCalls (p : Port) (s : State) : Answer :=
  .next (s.takeRequest p .readCalls true fun s => s.answerReadCalls)

/-- READ_EVENTS at the Link Interface (R193). -/
def State.answerReadEvents (s : State) (p : Port) : Reply := s.acceptWith (s.ports.get p).eventsContent

/-- READ_EVENTS (R193). -/
def execReadEvents (p : Port) (s : State) : Answer :=
  .next (s.takeRequest p .readEvents true fun s => s.answerReadEvents p)

/-- The flags that a set names cleared with their details, and the attention line judged (R193, R194). -/
def PortRecord.clearFlags (r : PortRecord) (set : BitVec 19) : PortRecord :=
  { r with
    flags := r.flags &&& ~~~set
    details := Vector.ofFn fun i : Fin 19 => if set.getLsbD i.val then 0 else r.details[i] }.judgeAttention

/-- CLEAR_EVENTS at the Link Interface (R193). -/
def State.answerClearEvents (s : State) (p : Port) (set : BitVec 32) : Reply :=
  match eventSet? set with
  | some m => (s.setPort p ((s.ports.get p).clearFlags m)).accept
  | none => s.refuse .outOfRange

/-- CLEAR_EVENTS (R193). -/
def execClearEvents (p : Port) (set : BitVec 32) (s : State) : Answer :=
  .next (s.takeRequest p .clearEvents true fun s => s.answerClearEvents p set)

/-- The mask replaced, and the attention line judged (R193, R194). -/
def PortRecord.withMask (r : PortRecord) (mask : BitVec 19) : PortRecord := { r with mask := mask }.judgeAttention

/-- SET_EVENT_MASK at the Link Interface (R193). -/
def State.answerSetEventMask (s : State) (p : Port) (set : BitVec 32) : Reply :=
  match eventSet? set with
  | some m => (s.setPort p ((s.ports.get p).withMask m)).accept
  | none => s.refuse .outOfRange

/-- SET_EVENT_MASK (R193). -/
def execSetEventMask (p : Port) (set : BitVec 32) (s : State) : Answer :=
  .next (s.takeRequest p .setEventMask true fun s => s.answerSetEventMask p set)

end Sys2Proof.Machine
end

