-- ==== Sys2Proof/Machine/LinkEvents.lean ====
section
/-! DEFINITION. The events of the link (R98, R180 to R186): bytes, gaps, the beginning and end of a response, frames of an
unknown kind, and the hardware reset. A frame that completes byte by byte is served by the same answers as the request
rows. -/

namespace Sys2Proof.Machine

/-- A request handed to its owning block with its payload decoded (11.2, R196). -/
def State.serve (s : State) (p : Port) (k : RequestKind) (bs : List Byte) : Reply :=
  match k with
  | .switchOn => s.answerSwitchOn p
  | .switchFlash => s.answerSwitchFlash p
  | .switchOff => s.answerSwitchOff
  | .faultReset => s.answerFaultReset
  | .restart => s.answerRestart
  | .stageDemand => s.answerStageDemand p (u8 bs 0)
  | .refresh => s.answerRefresh p
  | .selectPlan => s.answerSelectPlan p (u8 bs 0)
  | .localReclaim => s.answerLocalReclaim
  | .takeControl => s.answerTakeControl
  | .releaseControl => s.answerReleaseControl
  | .writeGroup => s.answerWriteGroup (readGroupWrite bs)
  | .writeConflictRow => s.answerWriteConflictRow (u8 bs 0) (readConflictRow bs)
  | .writeStage => s.answerWriteStage (u8 bs 0) (u8 bs 1) (set32 bs 2)
  | .writeJunction => s.answerWriteJunction (readJunctionWrite bs)
  | .writeOutput => s.answerWriteOutput (readOutputWrite bs)
  | .writeDetector => s.answerWriteDetector (readDetectorWrite bs)
  | .writeBank => s.answerWriteBank (readBankWrite bs)
  | .writePlan => s.answerWritePlan (readPlanWrite bs)
  | .readTable => s.answerReadTable (u8 bs 0) (u8 bs 1)
  | .forceOutput => s.answerForceOutput (u8 bs 0) (u8 bs 1)
  | .readStatus => s.answerReadStatus
  | .readDetectors => s.answerReadDetectors
  | .readCounts => s.answerReadCounts p (u8 bs 0)
  | .readCalls => s.answerReadCalls
  | .readEvents => s.answerReadEvents p
  | .clearEvents => s.answerClearEvents p (set32 bs 0)
  | .setEventMask => s.answerSetEventMask p (set32 bs 0)
  | .callCheckin => s.answerCallCheckin (readCheckin bs)
  | .callCheckout => s.answerWithdraw (u16 bs 0)
  | .callCancel => s.answerWithdraw (u16 bs 0)

/-- A well-formed frame that has completed, by its KIND and payload (R184, R186). LEN is at least 1, so a KIND is there. -/
def State.takeFrame (s : State) (p : Port) : List Byte → State
  | [] => s
  | kind :: payload =>
    match requestKind? kind with
    | none => s.takeUnknown p kind
    | some k => s.takeRequest p k (payload.length == k.payloadLength) fun s => s.serve p k payload

/-- What a received byte brings about, beyond the receiver (R182, R183). -/
def State.afterByte (s : State) (p : Port) : Received → State
  | .nothing => s
  | .abandoned => s.post .framing (portCode p)
  | .badCrc => s.post .crcError (portCode p)
  | .complete body => s.takeFrame p body

/-- A character that completes at a port's RX pin (R182); the pin of a disabled port is not read (R180). -/
def State.receiveByte (s : State) (p : Port) (b : Byte) (stopHigh : Bool) : State :=
  if s.portEnabled p then
    let (r, what) := (s.ports.get p).receive b stopHigh
    (s.setPort p r).afterByte p what
  else s

/-- BYTE_RECEIVED (R182). -/
def execByteReceived (p : Port) (b : Nat) (stopHigh : Bool) (s : State) : Answer :=
  .next (s.receiveByte p (byte b) stopHigh)

/-- FRAME_GAP_TIMEOUT (R182). -/
def execFrameGapTimeout (p : Port) (s : State) : Answer := .next (s.abandonFrame p)

/-- RESPONSE_SENT (R184). -/
def execResponseSent (p : Port) (s : State) : Answer := .next (s.endTransmission p)

/-- TRANSMISSION_BEGINS (R185). -/
def execTransmissionBegins (p : Port) (s : State) : Answer := .next (s.beginTransmission p)

/-- UNKNOWN_KIND (R186). -/
def execUnknownKind (p : Port) (kind : Nat) (s : State) : Answer := .next (s.takeUnknown p (byte kind))

/-- HARDWARE_RESET (R98, R180): every block at its reset value, the straps latched. The waiting commands and
spans of time are not the part's and stay. -/
def execHardwareReset (speed : Nat) (cen : Bool) (junction : Nat) (s : State) : Answer :=
  .next { State.afterReset { speed := Fin.ofNat 4 speed, cen := cen, junction := Fin.ofNat 16 junction } with
    spans := s.spans, pending := s.pending }

end Sys2Proof.Machine
end

