-- ==== Sys2Proof/Machine/GroupEvents.lean ====
section
/-! DEFINITION. The timer events of the groups (01_signal_groups.md, 02_conflicts_intergreens_and_stages.md, R126). An
expiry acts only where its timer runs and its time has run out; elsewhere the event cannot happen, and the command changes
nothing (notes/assumptions/4.md). A number that names no group changes nothing either. -/

namespace Sys2Proof.Machine

/-- What an event does at the group that a number names. -/
def State.atGroup (s : State) (group : Nat) (f : GroupId → State) : State :=
  match groupId? group with
  | some g => f g
  | none => s

/-- The expiry of a start timer: the gaining rule is judged, and the group steps out of STOP or its timer becomes idle (R34,
R36). -/
def State.expireStart (s : State) (g : GroupId) : State :=
  if timerDue (s.grp g).startTimer then
    if (s.grp g).state = .stop ∧ (s.grp g).gaining = true ∧ s.gainingRule g = true then s.stepOut g
    else s.setGrp g { s.grp g with startTimer := none }
  else s

/-- START_TIMER_EXPIRY (R35). -/
def execStartTimerExpiry (group : Nat) (s : State) : Answer := .next (s.atGroup group s.expireStart).settle

/-- The expiry of the state timer in PREPARE: a start of GO (R13). -/
def State.expirePrepare (s : State) (g : GroupId) : State :=
  if (s.grp g).state = .prepare ∧ timerDue (s.grp g).stateTimer = true then s.startGo g else s

/-- PREPARE_TIMER_EXPIRY (R13). -/
def execPrepareTimerExpiry (group : Nat) (s : State) : Answer := .next (s.atGroup group s.expirePrepare).settle

/-- The judgement of the standby step at an event of one group, where that group belongs to the step stage (R127). -/
def State.judgeStepFor (s : State) (g : GroupId) : State := if inSet g s.stepSet then s.judgeStep else s

/-- The expiry of the min go timer: min go has lapsed, the conditions of R15 are checked, and the Standby Unit judges its
step (R127). -/
def State.expireMinGo (s : State) (g : GroupId) : State :=
  if timerDue (s.grp g).minGoTimer then
    ((s.setGrp g { s.grp g with minGoTimer := none, minGoLapsed := true }).judgeStepFor g).move (.terminate g)
  else s

/-- MIN_GO_EXPIRY (R15). -/
def execMinGoExpiry (group : Nat) (s : State) : Answer := .next (s.atGroup group s.expireMinGo).settle

/-- HOLD_END_REACHED (R16). -/
def execHoldEndReached (group : Nat) (s : State) : Answer := .next (s.atGroup group s.reachHoldEnd).settle

/-- The expiry of the state timer in CLEAR: the group enters STOP (R18). -/
def State.expireClear (s : State) (g : GroupId) : State :=
  if (s.grp g).state = .clear ∧ timerDue (s.grp g).stateTimer = true then s.enterStop g else s

/-- CLEAR_TIMER_EXPIRY (R18). -/
def execClearTimerExpiry (group : Nat) (s : State) : Answer := .next (s.atGroup group s.expireClear).settle

/-- The expiry of the min stop timer: min stop has lapsed (R9). -/
def State.expireMinStop (s : State) (g : GroupId) : State :=
  if timerDue (s.grp g).minStopTimer then s.setGrp g { s.grp g with minStopTimer := none } else s

/-- MIN_STOP_EXPIRY (R9). -/
def execMinStopExpiry (group : Nat) (s : State) : Answer := .next (s.atGroup group s.expireMinStop).settle

/-- The go-start elapsed of a group in GO reaches its max go in force: the Standby Unit judges its step (R126, R127). -/
def State.reachMaxGo (s : State) (g : GroupId) : State :=
  if (s.grp g).state = .go ∧ (s.grp g).maxGoInForce ≤ wholeDs (s.grp g).goElapsed then s.judgeStepFor g else s

/-- MAX_GO_REACHED (R126). -/
def execMaxGoReached (group : Nat) (s : State) : Answer := .next (s.atGroup group s.reachMaxGo).settle

end Sys2Proof.Machine
end

