-- ==== Sys2Proof/Machine/UnitEvents.lean ====
section
/-! DEFINITION. The events of the other blocks: the red timers, the supervision lapses, the timers of calls, recovery and
the standby step, measurements and contact samples, lamp samples, the flasher, and the passing of time over every elapsed
value and timer (R1). A timer's event acts only where that timer's time has run out
(notes/assumptions/4.md). -/

namespace Sys2Proof.Machine

/-! ## Mode Controller -/

/-- The startup red expiry: the start stage is released and becomes the mode target (R103). -/
def State.expireStartupRed (s : State) : State :=
  if s.mc.mode = .startup ∧ timerDue s.mc.startupRed = true then
    ({ s with
      mc := { s.mc with startupRed := none, released := true }
      arb := { s.arb with modeTarget := some s.tables.junction.startStage } }).recompute true
  else s

/-- STARTUP_RED_EXPIRY (R103). -/
def execStartupRedExpiry (s : State) : Answer := .next s.expireStartupRed.settle

/-- The closing red expiry: the mode becomes the closing destination (R109). -/
def State.expireClosingRed (s : State) : State :=
  if s.mc.mode = .closing ∧ timerDue s.mc.closingRed = true then
    match s.mc.closingDest with
    | some .dark => s.enterDark
    | some .flash => s.enterFlash
    | none => s
  else s

/-- CLOSING_RED_EXPIRY (R109). -/
def execClosingRedExpiry (s : State) : Answer := .next s.expireClosingRed.settle

/-- The lapse of port L: its flag and timer, LAPSE_LOCAL, and out of LOCAL to STANDBY or CLOSING (R114). -/
def State.lapseLocal (s : State) : State :=
  if timerDue s.mc.localTimer then
    let s := { s with mc := { s.mc with localTimer := none, localAlive := false } }
    let s := s.post .lapseLocal s.mc.mode.code
    if s.mc.mode = .localMode then s.enterFallback else s
  else s

/-- LAPSE_LOCAL (R114). -/
def execLapseLocal (s : State) : Answer := .next s.lapseLocal.settle

/-- The lapse of port C: its flag and timer, LAPSE_CENTRAL, and in CENTRAL the fall-through (R114, R117). -/
def State.lapseCentral (s : State) : State :=
  if timerDue s.mc.centralTimer then
    let s := { s with mc := { s.mc with centralTimer := none, centralAlive := false } }
    let s := s.post .lapseCentral s.mc.mode.code
    if s.mc.mode = .centralMode then s.fallThrough else s
  else s

/-- LAPSE_CENTRAL (R114). -/
def execLapseCentral (s : State) : Answer := .next s.lapseCentral.settle

/-! ## Priority Unit -/

/-- The expiry of a call's action timer: the whole list is evaluated (R79). -/
def State.expireAction (s : State) (tram : Nat) : State :=
  match s.call? tram with
  | some c =>
    if timerDue c.actionTimer then (s.updateCall tram fun c => { c with actionTimer := none }).evaluateCalls else s
  | none => s

/-- ACTION_TIMER_EXPIRY (R79). -/
def execActionTimerExpiry (tram : Nat) (s : State) : Answer := .next (s.expireAction tram).settle

/-- SERVICE_END_REACHED (R82). -/
def execServiceEndReached (tram : Nat) (s : State) : Answer := .next (s.takeServiceEnd tram).settle

/-- The expiry of the recovery timer: it becomes idle, and the calls are evaluated (R87). -/
def State.expireRecovery (s : State) : State :=
  if timerDue s.pu.recovery then ({ s with pu := { s.pu with recovery := none } }).evaluateCalls else s

/-- RECOVERY_EXPIRY (R87). -/
def execRecoveryExpiry (s : State) : Answer := .next s.expireRecovery.settle

/-- Whether a call times out: its elapsed exceeds its travel time plus the call timeout of the active plan (R72). -/
def State.timedOut (s : State) (c : Call) : Bool := decide (c.travel + s.callTimeout < wholeDs c.elapsed)

/-- A call that times out is removed, with CALL_EXPIRED (R72). -/
def State.expireCall (s : State) (tram : Nat) : State :=
  match s.call? tram with
  | some c => if s.timedOut c then (s.post .callExpired tram).removeCall c else s
  | none => s

/-- CALL_TIMEOUT (R72). -/
def execCallTimeout (tram : Nat) (s : State) : Answer := .next (s.expireCall tram).settle

/-! ## Standby Unit -/

/-- The expiry of the step green timer of a resumed step: the step is judged (R126). -/
def State.expireStepGreen (s : State) : State :=
  if timerDue s.sb.stepGreen then ({ s with sb := { s.sb with stepGreen := none } }).judgeStep else s

/-- STEP_GREEN_TIMER_EXPIRY (R126). -/
def execStepGreenTimerExpiry (s : State) : Answer := .next s.expireStepGreen.settle

/-- REST_DELAY_REACHED (R129): rest entry is judged; it asks that the elapsed value has reached the rest delay. -/
def execRestDelayReached (s : State) : Answer := .next s.judgeRest.settle

/-! ## Loop Scanner and Detector Logic -/

/-- What an event does at the bank that a number names. -/
def State.atBank (s : State) (bank : Nat) (f : BankId → State) : State :=
  match bankId? bank with
  | some b => f b
  | none => s

/-- LOOP_VISIT_COMPLETE (R140). -/
def execLoopVisitComplete (bank : Nat) (count : Option Nat) (s : State) : Answer :=
  .next (s.atBank bank fun b => s.completeVisit b count).settle

/-- CONTACT_SAMPLE (R149). The Standby Unit takes the changes of demand and extension after the whole sample (DESIGN CHOICE,
notes/assumptions/36.md). -/
def execContactSample (bank : Nat) (levels : BitVec 8) (s : State) : Answer :=
  .next (s.atBank bank fun b => s.sampleBank b levels).settle

/-- The expiry of a channel's stretch timer: the extension of its groups is judged afresh (R158, R159). -/
def State.expireStretch (s : State) (ch : ChanId) : State :=
  if timerDue s.det.stretch[ch] then
    ({ s with det := { s.det with stretch := s.det.stretch.set ch none } }).judgeDemand
  else s

/-- STRETCH_TIMER_EXPIRY (R158). -/
def execStretchTimerExpiry (channel : Nat) (s : State) : Answer :=
  .next (match chanId? channel with
    | some ch => s.expireStretch ch
    | none => s).settle

/-! ## Lamp Monitor and Output Unit -/

/-- A sample of the lamp sense chain: proving for every channel, then the conflict monitor (R171 to R173). The channels are
taken in ascending order, so the highest whose status changes is the detail of LAMP (R172); both orders are a DESIGN CHOICE
(notes/assumptions/28.md). Red-out is judged after each channel of the sample whose status changes, and not once after all 72,
so a red lost at a channel is reported also where a higher channel of the same group is PROVEN anew in that sample (R175;
DESIGN CHOICE, notes/assumptions/35.md). -/
def State.sampleLamps (s : State) (levels : BitVec 72) : State :=
  (outIds.foldl (fun t o => t.prove o (s.sensedOn levels o)) s).monitorConflict levels

/-- LAMP_SAMPLE (R171). The Mode Controller takes a conflict fault that the sample reports within this command, so no exit
from DARK stands between the second conflicting sample and the taking of its report (R110, R174; DESIGN CHOICE,
notes/assumptions/37.md). -/
def execLampSample (levels : BitVec 72) (s : State) : Answer := .next (s.sampleLamps levels).settle

/-- The flasher turns its phase; a new rate takes effect where a period begins, with phase A (R168). -/
def State.turnFlasher (s : State) : State :=
  ({ s with
    out := { s.out with
      phaseA := !s.out.phaseA
      rate := if s.out.phaseA then s.out.rate else s.tables.junction.flasherRate } }).loadChain

/-- FLASHER_PHASE_CHANGE (R168). -/
def execFlasherPhaseChange (s : State) : Answer := .next s.turnFlasher

/-! ## The passing of time (R1) -/

/-- A group record after a span of time: its timers run down, its elapsed values rise (R10, R11). -/
def GroupRun.later (span : Nat) (r : GroupRun) : GroupRun :=
  { r with
    stateTimer := runDown span r.stateTimer, minGoTimer := runDown span r.minGoTimer,
    minStopTimer := runDown span r.minStopTimer, startTimer := runDown span r.startTimer,
    goElapsed := if r.state = .go then elapse span r.goElapsed else r.goElapsed,
    sinceGo := r.sinceGo.map (elapse span) }

/-- The Mode Controller's timers after a span of time. -/
def ModeControl.later (span : Nat) (m : ModeControl) : ModeControl :=
  { m with
    startupRed := runDown span m.startupRed, closingRed := runDown span m.closingRed,
    localTimer := runDown span m.localTimer, centralTimer := runDown span m.centralTimer }

/-- A call after a span of time (R66). -/
def Call.later (span : Nat) (c : Call) : Call :=
  { c with elapsed := elapse span c.elapsed, actionTimer := runDown span c.actionTimer }

/-- The Priority Unit after a span of time. -/
def PriorityUnit.later (span : Nat) (u : PriorityUnit) : PriorityUnit :=
  { u with calls := u.calls.map (Call.later span), recovery := runDown span u.recovery }

/-- The Standby Unit after a span of time; the rest activity elapsed rises in STANDBY (R128). -/
def Standby.later (span : Nat) (b : Standby) (mode : Mode) : Standby :=
  { b with
    stepGreen := runDown span b.stepGreen
    restElapsed := if mode = .standby then elapse span b.restElapsed else b.restElapsed }

/-- A channel after a span of time: its occupied elapsed rises while OCCUPIED (R135). -/
def Channel.later (span : Nat) (c : Channel) : Channel :=
  { c with occupied := if c.state = .occupied then elapse span c.occupied else c.occupied }

/-- The Detector Logic after a span of time: stretch timers run down, and the total of an OCCUPIED channel rises by the whole
deciseconds that its present spell completes (R1, R161). -/
def DetectorLogic.later (span : Nat) (d : DetectorLogic) (chans : Vector Channel 32) : DetectorLogic :=
  { d with
    stretch := d.stretch.map (runDown span)
    total := Vector.ofFn fun ch : Fin 32 =>
      if chans[ch].state = .occupied then rise (wholeDs (d.spell[ch] + span)) d.total[ch] else d.total[ch]
    spell := Vector.ofFn fun ch : Fin 32 =>
      if chans[ch].state = .occupied then (d.spell[ch] + span) % Config.decisecond else d.spell[ch] }

/-- A span of time passes over the whole part; each timer and elapsed value counts it from its own event (R1,
notes/assumptions/3.md). -/
def State.passTime (s : State) (span : Nat) : State :=
  { s with
    groups := s.groups.map (GroupRun.later span), mc := s.mc.later span, pu := s.pu.later span,
    sb := s.sb.later span s.mc.mode, chans := s.chans.map (Channel.later span), det := s.det.later span s.chans,
    now := s.now + span }

/-- DECISECOND_ELAPSED_RISE (R1): the first waiting span passes, and where none waits a whole decisecond
(notes/assumptions/3.md). -/
def execDecisecondElapsedRise (s : State) : Answer :=
  .next { s.passTime (s.spans.headD Config.decisecond) with spans := s.spans.tail }

end Sys2Proof.Machine
end

