-- ==== Sys2Proof/Machine/Dispatch.lean ====
section
/-! DEFINITION. The meaning of each command: one arm for each row of spec/opcode_table.json, in the table's order. -/

namespace Sys2Proof.Machine

/-- The effect of a command on everything but the queue. -/
def exec (i : Instr) (s : State) : Host.Outcome State Fault Refusal :=
  match i with
  | .hardwareReset speed cen junction => Sys2Proof.Machine.execHardwareReset speed cen junction s
  | .byteReceived p b stopHigh => Sys2Proof.Machine.execByteReceived p b stopHigh s
  | .frameGapTimeout p => Sys2Proof.Machine.execFrameGapTimeout p s
  | .responseSent p => Sys2Proof.Machine.execResponseSent p s
  | .unknownKind p kind => Sys2Proof.Machine.execUnknownKind p kind s
  | .switchOn p => Sys2Proof.Machine.execSwitchOn p s
  | .switchFlash p => Sys2Proof.Machine.execSwitchFlash p s
  | .switchOff p => Sys2Proof.Machine.execSwitchOff p s
  | .faultReset p => Sys2Proof.Machine.execFaultReset p s
  | .restart p => Sys2Proof.Machine.execRestart p s
  | .stageDemand p stage => Sys2Proof.Machine.execStageDemand p stage s
  | .refresh p => Sys2Proof.Machine.execRefresh p s
  | .selectPlan p plan => Sys2Proof.Machine.execSelectPlan p plan s
  | .localReclaim p => Sys2Proof.Machine.execLocalReclaim p s
  | .takeControl p => Sys2Proof.Machine.execTakeControl p s
  | .releaseControl p => Sys2Proof.Machine.execReleaseControl p s
  | .writeGroup p w => Sys2Proof.Machine.execWriteGroup p w s
  | .writeConflictRow p group row => Sys2Proof.Machine.execWriteConflictRow p group row s
  | .writeStage p stage mark set => Sys2Proof.Machine.execWriteStage p stage mark set s
  | .writeJunction p w => Sys2Proof.Machine.execWriteJunction p w s
  | .writeOutput p w => Sys2Proof.Machine.execWriteOutput p w s
  | .writeDetector p w => Sys2Proof.Machine.execWriteDetector p w s
  | .writeBank p w => Sys2Proof.Machine.execWriteBank p w s
  | .writePlan p w => Sys2Proof.Machine.execWritePlan p w s
  | .readTable p table index => Sys2Proof.Machine.execReadTable p table index s
  | .forceOutput p channel force => Sys2Proof.Machine.execForceOutput p channel force s
  | .readStatus p => Sys2Proof.Machine.execReadStatus p s
  | .readDetectors p => Sys2Proof.Machine.execReadDetectors p s
  | .readCounts p clear => Sys2Proof.Machine.execReadCounts p clear s
  | .readCalls p => Sys2Proof.Machine.execReadCalls p s
  | .readEvents p => Sys2Proof.Machine.execReadEvents p s
  | .clearEvents p set => Sys2Proof.Machine.execClearEvents p set s
  | .setEventMask p set => Sys2Proof.Machine.execSetEventMask p set s
  | .callCheckin p w => Sys2Proof.Machine.execCallCheckin p w s
  | .callCheckout p tram => Sys2Proof.Machine.execCallCheckout p tram s
  | .callCancel p tram => Sys2Proof.Machine.execCallCancel p tram s
  | .startTimerExpiry group => Sys2Proof.Machine.execStartTimerExpiry group s
  | .prepareTimerExpiry group => Sys2Proof.Machine.execPrepareTimerExpiry group s
  | .minGoExpiry group => Sys2Proof.Machine.execMinGoExpiry group s
  | .holdEndReached group => Sys2Proof.Machine.execHoldEndReached group s
  | .clearTimerExpiry group => Sys2Proof.Machine.execClearTimerExpiry group s
  | .minStopExpiry group => Sys2Proof.Machine.execMinStopExpiry group s
  | .maxGoReached group => Sys2Proof.Machine.execMaxGoReached group s
  | .startupRedExpiry => Sys2Proof.Machine.execStartupRedExpiry s
  | .closingRedExpiry => Sys2Proof.Machine.execClosingRedExpiry s
  | .lapseLocal => Sys2Proof.Machine.execLapseLocal s
  | .lapseCentral => Sys2Proof.Machine.execLapseCentral s
  | .actionTimerExpiry tram => Sys2Proof.Machine.execActionTimerExpiry tram s
  | .serviceEndReached tram => Sys2Proof.Machine.execServiceEndReached tram s
  | .recoveryExpiry => Sys2Proof.Machine.execRecoveryExpiry s
  | .callTimeout tram => Sys2Proof.Machine.execCallTimeout tram s
  | .stepGreenTimerExpiry => Sys2Proof.Machine.execStepGreenTimerExpiry s
  | .restDelayReached => Sys2Proof.Machine.execRestDelayReached s
  | .loopVisitComplete bank count => Sys2Proof.Machine.execLoopVisitComplete bank count s
  | .contactSample bank levels => Sys2Proof.Machine.execContactSample bank levels s
  | .stretchTimerExpiry channel => Sys2Proof.Machine.execStretchTimerExpiry channel s
  | .lampSample levels => Sys2Proof.Machine.execLampSample levels s
  | .flasherPhaseChange => Sys2Proof.Machine.execFlasherPhaseChange s
  | .transmissionBegins p => Sys2Proof.Machine.execTransmissionBegins p s
  | .decisecondElapsedRise => Sys2Proof.Machine.execDecisecondElapsedRise s

end Sys2Proof.Machine
end

