-- ==== Sys2Proof/Machine/Encode.lean ====
section
/-! DEFINITION. The frame that a master sends for each request command: its port, its KIND and the bytes of its payload
(11.1, 11.2, 11.4, 11.5). Events and frames of an unknown kind are no requests of the part. -/

namespace Sys2Proof.Machine

/-- The port, the kind and the payload of a request command; none for every other command (11.2). -/
def requestOf : Instr → Option (Port × RequestKind × List Byte)
  | .switchOn p => some (p, .switchOn, [])
  | .switchFlash p => some (p, .switchFlash, [])
  | .switchOff p => some (p, .switchOff, [])
  | .faultReset p => some (p, .faultReset, [])
  | .restart p => some (p, .restart, [])
  | .stageDemand p stage => some (p, .stageDemand, [byte stage])
  | .refresh p => some (p, .refresh, [])
  | .selectPlan p plan => some (p, .selectPlan, [byte plan])
  | .localReclaim p => some (p, .localReclaim, [])
  | .takeControl p => some (p, .takeControl, [])
  | .releaseControl p => some (p, .releaseControl, [])
  | .writeGroup p w => some (p, .writeGroup, groupPayload w)
  | .writeConflictRow p group row => some (p, .writeConflictRow, conflictPayload group row)
  | .writeStage p stage mark set => some (p, .writeStage, stagePayload stage mark set)
  | .writeJunction p w => some (p, .writeJunction, junctionPayload w)
  | .writeOutput p w => some (p, .writeOutput, outputPayload w)
  | .writeDetector p w => some (p, .writeDetector, detectorPayload w)
  | .writeBank p w => some (p, .writeBank, bankPayload w)
  | .writePlan p w => some (p, .writePlan, planPayload w)
  | .readTable p table index => some (p, .readTable, [byte table, byte index])
  | .forceOutput p channel force => some (p, .forceOutput, [byte channel, byte force])
  | .readStatus p => some (p, .readStatus, [])
  | .readDetectors p => some (p, .readDetectors, [])
  | .readCounts p clear => some (p, .readCounts, [byte clear])
  | .readCalls p => some (p, .readCalls, [])
  | .readEvents p => some (p, .readEvents, [])
  | .clearEvents p set => some (p, .clearEvents, le4 set.toNat)
  | .setEventMask p set => some (p, .setEventMask, le4 set.toNat)
  | .callCheckin p w => some (p, .callCheckin, checkinPayload w)
  | .callCheckout p tram => some (p, .callCheckout, le2 tram)
  | .callCancel p tram => some (p, .callCancel, le2 tram)
  | .hardwareReset _ _ _ | .byteReceived _ _ _ | .frameGapTimeout _ | .responseSent _ | .unknownKind _ _
  | .startTimerExpiry _ | .prepareTimerExpiry _ | .minGoExpiry _ | .holdEndReached _ | .clearTimerExpiry _
  | .minStopExpiry _ | .maxGoReached _ | .startupRedExpiry | .closingRedExpiry | .lapseLocal | .lapseCentral
  | .actionTimerExpiry _ | .serviceEndReached _ | .recoveryExpiry | .callTimeout _ | .stepGreenTimerExpiry
  | .restDelayReached | .loopVisitComplete _ _ | .contactSample _ _ | .stretchTimerExpiry _ | .lampSample _
  | .flasherPhaseChange | .transmissionBegins _ | .decisecondElapsedRise => none

end Sys2Proof.Machine
end

