-- ==== Sys2Proof/Safety.lean ====
section
/-! DEFINITION. What holds of the part at every moment between commands, as the spec's laws say it: conflicts and
intergreens, the groups of a junction that is not running, the bounds of lists and counts, the attention and fault lines,
forces, standby fields, baselines and lit values. Each law that needs others to carry it stands in a conjunction with
them, so that the conjunction is what a step keeps. -/

namespace Sys2Proof.Machine

/-! ## Requests -/

/-- A request of a kind is taken at a port: the port is enabled, its slot is empty, the kind is in its list (R180, R184, R186),
and nothing is in flight between the blocks. -/
abbrev State.Takes (s : State) (p : Port) (k : RequestKind) : Prop :=
  s.portEnabled p = true ∧ (s.ports.get p).busy = false ∧ k.listed p = true ∧ s.work.isIdle = true

/-- The state with a port's slot BUSY and its response formed: the request's KIND, the result and the content of each segment
(R184, R185). -/
def State.answered (s : State) (p : Port) (k : RequestKind) (r : Result) (content : List (List Byte)) : State :=
  s.setPort p { s.ports.get p with busy := true, response := responseFrames k.code r content }

/-- The response that a port's slot holds answers a request of a kind with a result and no content (R185). -/
abbrev State.Responds (s : State) (p : Port) (k : RequestKind) (r : Result) : Prop :=
  (s.ports.get p).busy = true ∧ (s.ports.get p).response = responseFrames k.code r [[]]

/-- The bytes of a frame received one after another at a port, with every stop bit high (R181, R182). -/
def State.receiveAll (s : State) (p : Port) (bs : List Byte) : State := bs.foldl (fun t b => t.receiveByte p b true) s

/-- No tram has a call or a record to return to, and no group is red-monitored or shows red-out: what a master asks of the
target is then not overruled at the same moment (R45, R175). -/
abbrev State.Undisturbed (s : State) : Prop :=
  s.pu.calls = [] ∧ s.pu.stack = [] ∧ s.arb.priorityRequest = none ∧ (∀ g, (s.cfg g).redMonitored = false) ∧
    s.lm.redOut = 0

/-- The junction runs under a master, in LOCAL or CENTRAL, with nothing to overrule it and nothing in flight. -/
abbrev State.PlainRunning (s : State) : Prop :=
  (s.mc.mode = .localMode ∨ s.mc.mode = .centralMode) ∧ s.Undisturbed ∧ s.work.isIdle = true

/-- What stays around an event of one group under a master: the tables, the Mode Controller, the calls, the target, and every
other group, but those that gain in STOP and may now time or take their step (R36). -/
abbrev State.StaysAround (s t : State) (g : GroupId) : Prop :=
  t.tables = s.tables ∧ t.mc = s.mc ∧ t.pu.calls = s.pu.calls ∧ t.arb.target = s.arb.target ∧
    ∀ h, h ≠ g → (s.grp h).state ≠ .stop ∨ (s.grp h).gaining = false → t.grp h = s.grp h

/-- No red-out can be reported: no group is red-monitored, and no red-out flag is set (R175, R176). -/
abbrev State.NoRedOut (s : State) : Prop := (∀ g, (s.cfg g).redMonitored = false) ∧ s.lm.redOut = 0

/-! ## Running of the groups -/

/-- A group at rest outside running: DARK or FLASH, with no timer, no flag and no pending order (R3, R20, R21). -/
abbrev GroupRun.Quiet (r : GroupRun) : Prop :=
  (r.state = .dark ∨ r.state = .flash) ∧ r.stateTimer = none ∧ r.minGoTimer = none ∧ r.minStopTimer = none ∧
    r.startTimer = none ∧ r.gaining = false ∧ r.terminating = false ∧ r.pendingOrder = none

/-- In DARK, FLASH and FAULT_FLASH no group runs (5.0, R20, R21). -/
abbrev State.IdleQuiet (s : State) : Prop := s.mc.mode.isIdle = true → ∀ g, (s.grp g).Quiet

/-- A group of kind UNUSED stays in DARK and is never gaining or terminating (R3). -/
abbrev State.UnusedQuiet (s : State) : Prop := ∀ g, s.kind g = .unused → (s.grp g).Quiet ∧ (s.grp g).state = .dark

/-- A pending order is held in PREPARE, GO or CLEAR, and the mode entries that give one leave no group there. -/
abbrev State.NoPendingOrder (s : State) : Prop := ∀ g, (s.grp g).pendingOrder = none

/-- The timers and flags of each group belong to its state (R2, R9, R12, R14, R16 to R18, R57). -/
abbrev GroupRun.Shaped (r : GroupRun) : Prop :=
  (r.stateTimer.isSome = true ↔ r.state = .prepare ∨ r.state = .clear) ∧
    (r.minGoTimer.isSome = true → r.state = .go) ∧ (r.minGoLapsed = true → r.state = .go) ∧
    (r.minStopTimer.isSome = true → r.state = .stop) ∧ (r.startTimer.isSome = true → r.state = .stop ∧ r.gaining = true) ∧
    (r.gaining = true → r.state = .stop ∨ r.state = .prepare) ∧
    (r.terminating = true → r.state = .prepare ∨ r.state = .go)

/-- Every group record is shaped by its state. -/
abbrev State.GroupsShaped (s : State) : Prop := ∀ g, (s.grp g).Shaped

/-- Only a VEHICLE group is in FLASH or PREPARE (R3). -/
abbrev State.KindsFit (s : State) : Prop :=
  ∀ g, (s.grp g).state = .flash ∨ (s.grp g).state = .prepare → s.kind g = .vehicle

/-- A gaining group belongs to the target (R57, R58). -/
abbrev State.GainingFits (s : State) : Prop := ∀ g, (s.grp g).gaining = true → inSet g (s.stageSet s.arb.target) = true

/-- The mode target of each mode (R46). In CLOSING the target is 0, and the closing red timer runs only with every group
stopped (R109). In STARTUP the target is the mode target, 0 until the start stage is released, and the startup red timer
runs only with every group stopped (R103). -/
abbrev State.ModeTargetFits (s : State) : Prop :=
  (s.mc.mode.isSignal = true → s.arb.modeTarget = none) ∧
    (s.mc.mode.isIdle = true → s.arb.modeTarget = some 0 ∧ s.arb.target = 0) ∧
    (s.mc.mode = .closing →
      s.arb.modeTarget = some 0 ∧ s.arb.target = 0 ∧ (s.mc.closingRed.isSome = true → s.allStopped = true)) ∧
    (s.mc.mode = .startup →
      s.arb.modeTarget = some s.arb.target ∧ (s.mc.released = false → s.arb.target = 0) ∧
        (s.mc.startupRed.isSome = true → s.allStopped = true))

/-- The closing destination is present in CLOSING only, the red timers run in their own modes, and supervision is idle in
DARK, FLASH and FAULT_FLASH (R98, R100, R113). -/
abbrev State.ModeFieldsFit (s : State) : Prop :=
  (s.mc.closingDest.isSome = true ↔ s.mc.mode = .closing) ∧
    (s.mc.closingRed.isSome = true → s.mc.mode = .closing) ∧
    (s.mc.startupRed.isSome = true → s.mc.mode = .startup ∧ s.mc.released = false) ∧
    (s.mc.released = true → s.mc.mode = .startup) ∧
    (s.mc.mode.isIdle = true →
      s.mc.localTimer = none ∧ s.mc.centralTimer = none ∧ s.mc.localAlive = false ∧ s.mc.centralAlive = false)

/-- While the junction runs, the matrix is the one that validation passed: both directions of a pair hold an intergreen or
neither does, and no group conflicts with itself (R24, R28, R30). -/
abbrev State.MatrixPaired (s : State) : Prop :=
  s.mc.mode.isIdle = false → ∀ c g, s.conflicts c g = s.conflicts g c ∧ s.conflicts c c = false

/-- Two conflicting groups are never both in GO, nor is one in GO while the other is in PREPARE (R34). -/
abbrev State.ConflictFree (s : State) : Prop :=
  ∀ c g, s.conflicts c g = true → ¬((s.grp c).state.active = true ∧ (s.grp g).state.active = true)

/-- The law of R34 on conflicts, with what carries it from step to step. -/
abbrev State.RightOfWay (s : State) : Prop :=
  s.IdleQuiet ∧ s.UnusedQuiet ∧ s.GroupsShaped ∧ s.NoPendingOrder ∧ s.GainingFits ∧ s.ModeFieldsFit ∧ s.ModeTargetFits ∧
    s.MatrixPaired ∧ s.ConflictFree

/-- Every intergreen lies from 0 to 250 (R24). -/
abbrev State.IntergreensBounded (s : State) : Prop := ∀ c g, (s.intergreen c g).getD 0 ≤ 250

/-- A group in GO started it at least I(c→g) after the end of GO of each conflicting group c that has left GO since the last
START order; a group in PREPARE will have waited as long when its prepare time has run (R34). -/
abbrev State.IntergreensKept (s : State) : Prop :=
  ∀ c g i e, s.intergreen c g = some i → (s.grp c).sinceGo = some e →
    ((s.grp g).state = .go → i ≤ wholeDs e) ∧
    ((s.grp g).state = .prepare → us i ≤ e + (s.grp g).stateTimer.getD 0)

/-- A group in GO whose min go has lapsed has been in GO for its min go in force; until then its min go timer runs for what
is left of it (R14, R15). -/
abbrev State.MinGoKept (s : State) : Prop :=
  ∀ g, (s.grp g).state = .go →
    (s.grp g).minGoInForce ≤ Config.countMax ∧ ((s.grp g).minGoTimer.isSome = true ↔ (s.grp g).minGoLapsed = false) ∧
      us (s.grp g).minGoInForce ≤ (s.grp g).goElapsed + (s.grp g).minGoTimer.getD 0

/-- Every min go of every plan fits the two bytes of its field (R191). -/
abbrev State.PlansFit (s : State) : Prop := ∀ n : Fin 4, ∀ g : Fin 24, s.tables.plans[n].minGo[g] ≤ Config.countMax

/-! ## Mode Controller -/

/-- The fault line is active exactly in FAULT_FLASH (R110, R177). -/
abbrev State.FaultLineFits (s : State) : Prop := s.mc.faultLine = true ↔ s.mc.mode = .faultFlash

/-- The standby fields hold their reset values outside STANDBY (R122). -/
abbrev State.StandbyIdle (s : State) : Prop := s.mc.mode ≠ .standby → s.sb = Standby.reset

/-- An output channel is forced in DARK only (R100, R169). -/
abbrev State.ForcesFit (s : State) : Prop := s.mc.mode ≠ .dark → ∀ o : Fin 72, s.out.force[o] = none

/-! ## Priority Unit -/

/-- The return stack holds at most 4 records and the call list at most 8 calls (R65). -/
abbrev State.ListsBounded (s : State) : Prop :=
  s.pu.stack.length ≤ Config.maxStack ∧ s.pu.calls.length ≤ Config.maxCalls

/-- The call list is empty whenever the mode is not LOCAL, CENTRAL or STANDBY, and with it the stack, the recovery timer, the
green served flags and the priority request, also one that the Arbiter has not taken yet (R67, R96). -/
abbrev State.CallsFit (s : State) : Prop :=
  s.mc.mode.isSignal = false →
    s.pu.calls = [] ∧ s.pu.stack = [] ∧ s.pu.recovery = none ∧ s.pu.served = 0 ∧ s.arb.priorityRequest = none ∧
      s.work.requests = []

/-- The calls stand in rank order with distinct tram ids and stamps below the arrival counter, and name TRAM groups (R67). -/
abbrev State.CallsRanked (s : State) : Prop :=
  s.pu.calls.Pairwise (fun a b => a.above b = true) ∧ (s.pu.calls.map (·.tram)).Nodup ∧
    (s.pu.calls.map (·.stamp)).Nodup ∧ s.pu.arrivals ≤ Config.countMax ∧
    ∀ c ∈ s.pu.calls, c.stamp < s.pu.arrivals ∧ (s.mc.mode.isIdle = false → s.kind c.group = .tram)

/-- At most one call acts (R77, R78, R88). -/
abbrev State.OneActing (s : State) : Prop := (s.pu.calls.filter Call.acting).length ≤ 1

/-- In STANDBY the unit is suspended exactly while a call acts (R122, R123, R131, R132). -/
abbrev State.SuspensionFits (s : State) : Prop :=
  s.mc.mode = .standby → (s.sb.suspended = true ↔ ∃ c ∈ s.pu.calls, c.acting = true)

/-! ## Counts and lines -/

/-- No elapsed value exceeds 65,535 ds, and no count or total 65,535 (R1, R161). -/
abbrev State.CountsBounded (s : State) : Prop :=
  (∀ g, (s.grp g).goElapsed ≤ us Config.countMax ∧ (s.grp g).sinceGo.getD 0 ≤ us Config.countMax) ∧
    (∀ c ∈ s.pu.calls, c.elapsed ≤ us Config.countMax) ∧ s.sb.restElapsed ≤ us Config.countMax ∧
    ∀ ch : Fin 32, s.det.count[ch] ≤ Config.countMax ∧ s.det.total[ch] ≤ Config.countMax ∧
      s.chans[ch].occupied ≤ us Config.countMax

/-- A port's attention line is active exactly when its event set and its mask share a flag, and the detail of a clear flag
is 0 (R193, R194). -/
abbrev PortRecord.LineFits (r : PortRecord) : Prop :=
  (r.attention = true ↔ r.flags &&& r.mask ≠ 0) ∧ ∀ k : Fin 19, r.flags.getLsbD k.val = false → r.details[k] = 0

/-- Every port's attention line follows its events, and a disabled port C has none (R180, R194). -/
abbrev State.LinesFit (s : State) : Prop :=
  s.ports.l.LineFits ∧ s.ports.c.LineFits ∧ s.ports.t.LineFits ∧
    (s.straps.cen = false → s.ports.c.flags = 0 ∧ s.ports.c.attention = false ∧ s.ports.c.busy = false)

/-! ## Detector channels -/

/-- The fault class is present in FAULT only, and a channel is DISABLED exactly while it is not enabled (R135, R136). -/
abbrev State.ChannelsFit (s : State) : Prop :=
  ∀ ch : Fin 32, (s.chans[ch].fault.isSome = true ↔ s.chans[ch].state = .fault) ∧
    (s.chans[ch].state = .disabled ↔ s.chanEnabled ch = false)

/-- A visit in flight goes to an enabled channel of its own LOOP bank with that bank's cycle count (R137 to R139). -/
abbrev State.VisitsFit (s : State) : Prop :=
  ∀ b : Fin 4, ∀ v, s.engines[b] = some v →
    bankOf v.channel = b ∧ (s.bank b).mode = .loop ∧ v.nc = (s.bank b).nc ∧ s.chanEnabled v.channel = true

/-- A channel is tuned: VACANT or OCCUPIED in a LOOP bank (R135, R148). -/
abbrev State.Tuned (s : State) (ch : ChanId) : Prop :=
  (s.bank (bankOf ch)).mode = .loop ∧ (s.chans[ch].state = .vacant ∨ s.chans[ch].state = .occupied)

/-- A tuned channel has a baseline in band: B × 12,000 ≤ Nc × 40,000,000 ≤ B × 150,000; every other channel has none
(R148). -/
abbrev State.BaselinesInBand (s : State) : Prop :=
  ∀ ch : Fin 32,
    (s.Tuned ch → s.chans[ch].baseline.any (fun b =>
      decide (b * 12000 ≤ (s.bank (bankOf ch)).nc * 40000000 ∧
        (s.bank (bankOf ch)).nc * 40000000 ≤ b * 150000)) = true) ∧
    (¬s.Tuned ch → s.chans[ch].baseline = none)

/-- How many candidates for a state a channel's confirmation run holds (R146, R149). -/
def Channel.runOf (c : Channel) (cand : Candidate) : Nat :=
  match c.confirm with
  | some (x, n) => if x = cand then n else 0
  | none => 0

/-- How many candidates of a class a channel's fault run holds (R141). -/
def Channel.faultsOf (c : Channel) (f : FaultClass) : Nat :=
  match c.faultRun with
  | some (x, n) => if x = f then n else 0
  | none => 0

/-! ## Lamp outputs -/

/-- Every lit value is the one that the channel's force or source gives (R167). -/
abbrev State.LitFollows (s : State) : Prop := ∀ o : Fin 72, s.out.lit[o] = s.formLit o

/-- Every position of the lamp drive chain carries its channel's level (R167). -/
abbrev State.ChainFollows (s : State) : Prop := ∀ o : Fin 72, s.out.chain.getLsbD o.val = s.driveLevel o

end Sys2Proof.Machine
end

