-- ==== Sys2Proof/WellFormed.lean ====
section
/-! DEFINITION. Which commands can come to the part: those whose fields fit the bytes of a frame (11.2, 11.4, 11.5), whose
events name things the part has, and whose straps and pins have levels. A command that is not well-formed still has a
meaning; the model says nothing of the hardware by it. -/

namespace Sys2Proof

/-- A field of one byte. -/
def isByte (n : Nat) : Bool := decide (n < 256)

/-- A field of two bytes. -/
def isWord (n : Nat) : Bool := decide (n < 65536)

/-- The KIND bytes that the part knows (11.2). -/
def knownKinds : List Nat :=
  [0x01, 0x02, 0x03, 0x04, 0x05, 0x06, 0x07, 0x08, 0x09, 0x0A, 0x0B, 0x10, 0x11, 0x12, 0x13, 0x14, 0x15, 0x16, 0x17,
    0x18, 0x19, 0x20, 0x21, 0x22, 0x23, 0x24, 0x25, 0x26, 0x30, 0x31, 0x32]

/-- The fields of a WRITE_GROUP fit its payload. -/
def GroupWrite.wf (w : GroupWrite) : Bool :=
  isByte w.group && isByte w.kind && isByte w.clearTime && isByte w.prepareTime && isByte w.minStop &&
    isByte w.redMonitored

/-- The fields of a WRITE_JUNCTION fit its payload. -/
def JunctionWrite.wf (w : JunctionWrite) : Bool :=
  isByte w.startStage && isByte w.restStage && w.priority.toList.all isByte && isByte w.seqLength &&
    w.seq.toList.all isByte && isByte w.permission && isByte w.localTime && isWord w.centralPeriod &&
    isByte w.startupRed && isByte w.closingRed && isByte w.standbyPlan && isByte w.flasherRate

/-- The fields of a WRITE_OUTPUT fit its payload. -/
def OutputWrite.wf (w : OutputWrite) : Bool :=
  isByte w.channel && isByte w.source && isByte w.arg && isByte w.role && isByte w.polarity

/-- The fields of a WRITE_DETECTOR fit its payload. -/
def DetectorWrite.wf (w : DetectorWrite) : Bool :=
  isByte w.channel && isByte w.enabled && isByte w.demandType && isByte w.activity && isByte w.substitution &&
    isByte w.stretch && isWord w.sensitivity && isWord w.presence

/-- The fields of a WRITE_BANK fit its payload. -/
def BankWrite.wf (w : BankWrite) : Bool := isByte w.bank && isByte w.mode && isWord w.nc && isByte w.k

/-- The fields of a WRITE_PLAN fit its payload. -/
def PlanWrite.wf (w : PlanWrite) : Bool :=
  isByte w.plan && w.minGo.toList.all isWord && w.maxGo.toList.all isWord && isByte w.margin && isByte w.passage &&
    isWord w.maxExt && isWord w.recovery && isWord w.callTimeout && isWord w.restDelay

/-- The fields of a CALL_CHECKIN fit its payload. -/
def Checkin.wf (w : Checkin) : Bool := isWord w.tram && isByte w.group && isByte w.cls && isWord w.travel

/-- A group number 1 to 24. -/
def isGroup (n : Nat) : Bool := decide (1 ≤ n ∧ n ≤ 24)

/-- A tram id 1 to 65,534. -/
def isTram (n : Nat) : Bool := decide (1 ≤ n ∧ n ≤ 65534)

/-- A period count that a visit can complete: at most that of the longest visit (R138). -/
def isCount (n : Option Nat) : Bool := decide (n.getD 0 ≤ 4096000)

/-- Whether a command can come to the part. -/
def Instr.wf : Instr → Bool
  | .hardwareReset speed _ junction => decide (speed < 4) && decide (junction < 16)
  | .byteReceived _ b _ => isByte b
  | .unknownKind _ kind => isByte kind && !knownKinds.contains kind
  | .stageDemand _ stage => isByte stage
  | .selectPlan _ plan => isByte plan
  | .writeGroup _ w => w.wf
  | .writeConflictRow _ group row => isByte group && row.toList.all isByte
  | .writeStage _ stage mark _ => isByte stage && isByte mark
  | .writeJunction _ w => w.wf
  | .writeOutput _ w => w.wf
  | .writeDetector _ w => w.wf
  | .writeBank _ w => w.wf
  | .writePlan _ w => w.wf
  | .readTable _ table index => isByte table && isByte index
  | .forceOutput _ channel force => isByte channel && isByte force
  | .readCounts _ clear => isByte clear
  | .callCheckin _ w => w.wf
  | .callCheckout _ tram => isWord tram
  | .callCancel _ tram => isWord tram
  | .startTimerExpiry group => isGroup group
  | .prepareTimerExpiry group => isGroup group
  | .minGoExpiry group => isGroup group
  | .holdEndReached group => isGroup group
  | .clearTimerExpiry group => isGroup group
  | .minStopExpiry group => isGroup group
  | .maxGoReached group => isGroup group
  | .actionTimerExpiry tram => isTram tram
  | .serviceEndReached tram => isTram tram
  | .callTimeout tram => isTram tram
  | .loopVisitComplete bank count => decide (bank < 4) && isCount count
  | .contactSample bank _ => decide (bank < 4)
  | .stretchTimerExpiry channel => decide (1 ≤ channel ∧ channel ≤ 32)
  | .frameGapTimeout _ | .responseSent _ | .switchOn _ | .switchFlash _ | .switchOff _ | .faultReset _ | .restart _
  | .refresh _ | .localReclaim _ | .takeControl _ | .releaseControl _ | .readStatus _ | .readDetectors _ | .readCalls _
  | .readEvents _ | .clearEvents _ _ | .setEventMask _ _ | .startupRedExpiry | .closingRedExpiry | .lapseLocal
  | .lapseCentral | .recoveryExpiry | .stepGreenTimerExpiry | .restDelayReached | .lampSample _ | .flasherPhaseChange
  | .transmissionBegins _ | .decisecondElapsedRise => true

end Sys2Proof
end

