-- ==== Sys2Proof/Certificates/Slice0/Obligations.lean ====
section
/-! DEFINITION. The statements of this row: the queue and the resets, the link, the tables, the modes, the groups, the
Priority Unit, the Standby Unit, the detectors, the lamp outputs, and the laws that every step keeps. A statement about a
command says the next state, or what the next state holds, for every state that meets hypotheses on the state and the
operands alone. Times are held in microseconds: `us n` is n deciseconds, `wholeDs` the value in ds of an elapsed value and
`dsLeft` that of a timer (R1, notes/assumptions/3.md). -/

open Sys2Proof Sys2Proof.Machine

/-! ## The queue -/

/-- A step runs the command at the front of the queue on the state with the rest of the queue, and with an empty queue
the part idles (the model's queue; the idling is a DESIGN CHOICE, notes/assumptions/7.md). -/
def Obligations.StepRunsFront : Prop :=
  (∀ (c : Instr) (rest : List Instr) (s : State),
    step { s with pending := c :: rest } = exec c { s with pending := rest }) ∧
  ∀ s : State, s.pending = [] → step s = .next s

/-- Every command runs to a next state and leaves the queue as it was. The queue is the model's own
(notes/assumptions/7.md), and that HARDWARE_RESET keeps it is the model's choice (notes/assumptions/24.md). -/
def Obligations.CommandsKeepQueue : Prop :=
  ∀ (c : Instr) (s : State), ∃ t, exec c s = .next t ∧ t.pending = s.pending

/-! ## Resets -/

/-- HARDWARE_RESET, from any state: every group record, matrix entry, stage, output, detector, bank, plan and junction
field at its reset value, every block at rest, START posted to every enabled port, the straps latched (R5, R24, R26,
R27, R42, R65, R98, R122, R133, R135, R152, R155, R165, R168, R170, R179, R180, R191). The time base at 0, the idle
min go timer, and the queue and spans that stay, are the model's choices (notes/assumptions/3.md and 24.md). -/
def Obligations.HardwareResetRestores : Prop :=
  ∀ (speed junction : Nat) (cen : Bool) (s : State), speed < 4 → junction < 16 →
    ∃ t, exec (.hardwareReset speed cen junction) s = .next t ∧
      (∀ g, t.cfg g = ⟨.unused, 0, 0, 0, false⟩ ∧
        t.grp g = ⟨.dark, none, 0, 0, false, none, none, none, 0, none, none, false, false, none⟩) ∧
      (∀ c g, t.intergreen c g = none) ∧ (∀ st : StageId, st ≠ 0 → t.tables.stage st = none) ∧
      t.tables.junction = ⟨0, 0, Vector.replicate 24 0, [], .none, 50, 300, 50, 50, 0, 50⟩ ∧
      (∀ o : Fin 72, t.tables.outputs[o] = ⟨.off, false⟩ ∧ t.out.force[o] = none ∧ t.out.lit[o] = .off ∧
        t.lm.lamps[o].status = .notProven) ∧
      (∀ ch : Fin 32, t.tables.detectors[ch] = ⟨false, 0, 0, false, false, false, 0⟩ ∧
        t.chans[ch] = ⟨.disabled, none, none, 0, none, none, 0, 0, 500, 0⟩ ∧ t.det.count[ch] = 0 ∧
        t.det.total[ch] = 0 ∧ t.det.stretch[ch] = none) ∧
      (∀ b : Fin 4, t.tables.banks[b] = ⟨.loop, 512, 2⟩ ∧ t.engines[b] = none) ∧
      (∀ n : Fin 4, t.tables.plans[n] = ⟨Vector.replicate 24 0, Vector.replicate 24 0, 0, 0, 0, 0, 0, 0⟩) ∧
      t.arb = ⟨0, 0, true, none, none, some 0, none⟩ ∧
      t.mc = ⟨.dark, none, none, false, none, none, false, none, false, .power, 0, 0, false⟩ ∧
      t.pu = ⟨[], [], none, 0, false, 0⟩ ∧ t.sb = ⟨0, none, false, false, false, false, none, none, 0⟩ ∧
      t.det.latch = 0 ∧ t.det.demand = 0 ∧ t.det.extension = 0 ∧ t.out.phaseA = true ∧ t.out.rate = 50 ∧
      t.lm.redOut = 0 ∧ t.lm.conflictRun = 0 ∧ t.lm.latestConflict = false ∧
      (∀ p, (t.ports.get p).rx = .hunt ∧ (t.ports.get p).busy = false ∧ (t.ports.get p).sending = false ∧
        (t.ports.get p).mask = 1 ∧
        (t.portEnabled p = true → (t.ports.get p).flags = 1 ∧ (t.ports.get p).attention = true)) ∧
      t.straps.speed.val = speed ∧ t.straps.cen = cen ∧ t.straps.junction.val = junction ∧ t.now = 0 ∧
      t.spans = s.spans ∧ t.pending = s.pending

/-- RESTART, taken in DARK, FLASH or FAULT_FLASH: the running state of every block at its restart value; the tables,
the plans in force, the channels and their visits, the counts and totals, the flasher and the straps kept; START
posted with the cause RESTART; port L answers OK and the other slots are empty. That the time base goes on and that
the min go timer is idle are the model's choices (notes/assumptions/24.md) (R5, R42, R65, R98, R112, R122, R155, R169,
R170, R179). -/
def Obligations.RestartKeepsTables : Prop :=
  ∀ (p : Port) (s : State), s.Takes p .restart → s.mc.mode.isIdle = true →
    ∃ t, exec (.restart p) s = .next t ∧ t.tables = s.tables ∧ t.chans = s.chans ∧ t.engines = s.engines ∧
      t.straps = s.straps ∧ t.now = s.now ∧ t.out.phaseA = s.out.phaseA ∧ t.out.rate = s.out.rate ∧
      (∀ g, t.grp g = ⟨.dark, none, 0, 0, false, none, none, none, 0, none, none, false, false, none⟩) ∧
      t.arb = ⟨0, 0, true, none, none, some 0, none⟩ ∧
      t.mc = ⟨.dark, none, none, false, none, none, false, none, false, .restart, s.mc.activePlan, s.mc.pendingPlan,
        false⟩ ∧
      t.pu = ⟨[], [], none, 0, false, 0⟩ ∧ t.sb = ⟨0, none, false, false, false, false, none, none, 0⟩ ∧
      t.det.latch = 0 ∧ t.det.count = s.det.count ∧ t.det.total = s.det.total ∧
      (∀ ch : Fin 32, t.det.stretch[ch] = none) ∧ t.lm.redOut = 0 ∧ t.lm.conflictRun = 0 ∧
      (∀ o : Fin 72, t.out.force[o] = none ∧ t.lm.lamps[o].status = .notProven) ∧
      (∀ q, t.portEnabled q = true → (t.ports.get q).flags = 1 ∧ (t.ports.get q).details[0] = 1 ∧
        (t.ports.get q).mask = 1 ∧ (t.ports.get q).attention = true ∧ (t.ports.get q).rx = .hunt) ∧
      t.Responds p .restart .ok ∧ ∀ q, q ≠ p → (t.ports.get q).busy = false ∧ (t.ports.get q).response = []

/-! ## The link -/

/-- BYTE_RECEIVED at an enabled port, by the receive state: HUNT looks for SYNC, LENGTH takes 1 to 200 and abandons
the frame else, BODY counts the bytes down, CHECK keeps its first byte and judges the second against the running CRC.
A byte error or, at FRAME_GAP_TIMEOUT, a gap of 10 ms abandons the frame with FRAMING; in HUNT neither has any effect
(R182, R183). `toCome` after a frame and the stored body are the model's (notes/assumptions/25.md). -/
def Obligations.BytesMoveReceiver : Prop :=
  ∀ (p : Port) (b : Byte) (s : State), s.portEnabled p = true →
    let r := s.ports.get p
    (r.rx = .hunt → exec (.byteReceived p b.toNat true) s =
      .next (if b = 0xC3 then s.setPort p { r with rx := .length, crc := 0xFFFF, body := [] } else s)) ∧
    (r.rx = .length → exec (.byteReceived p b.toNat true) s =
      .next (if 1 ≤ b.toNat ∧ b.toNat ≤ 200 then
          s.setPort p { r with rx := .body, toCome := b.toNat, crc := crcByte r.crc b }
        else (s.setPort p { r with rx := .hunt, toCome := 0 }).post .framing (portCode p))) ∧
    (r.rx = .body → 2 ≤ r.toCome → exec (.byteReceived p b.toNat true) s =
      .next (s.setPort p { r with toCome := r.toCome - 1, crc := crcByte r.crc b, body := r.body ++ [b] })) ∧
    (r.rx = .body → r.toCome = 1 → exec (.byteReceived p b.toNat true) s =
      .next (s.setPort p { r with rx := .check, toCome := 2, crc := crcByte r.crc b, body := r.body ++ [b] })) ∧
    (r.rx = .check → r.toCome = 2 → exec (.byteReceived p b.toNat true) s =
      .next (s.setPort p { r with toCome := 1, crcLow := b })) ∧
    (r.rx = .check → r.toCome = 1 → b ++ r.crcLow ≠ r.crc → exec (.byteReceived p b.toNat true) s =
      .next ((s.setPort p { r with rx := .hunt, toCome := 0 }).post .crcError (portCode p))) ∧
    (let t := if r.rx = .hunt then s else (s.setPort p { r with rx := .hunt, toCome := 0 }).post .framing (portCode p)
    (∀ b, exec (.byteReceived p b false) s = .next t) ∧ exec (.frameGapTimeout p) s = .next t)

/-- Two runs of bytes that differ in one byte have different CRCs, so a frame with one byte wrong after its LEN is never
taken as well-formed (R183). -/
def Obligations.CrcTellsOneByte : Prop :=
  ∀ (before after : List Byte) (b c : Byte), b ≠ c → crcOf (before ++ b :: after) ≠ crcOf (before ++ c :: after)

/-- The frame of every well-formed request command, received byte by byte at an enabled port whose receiver is in HUNT,
does exactly what the command's row does at that port with the receiver as the frame leaves it: no bit of the request is
lost on the way (R181 to R184, R195, R196; the receiver's stored bytes are the model's, notes/assumptions/5.md). -/
def Obligations.FrameDoesWhatRowDoes : Prop :=
  ∀ (i : Instr) (p : Port) (k : RequestKind) (payload : List Byte) (s : State),
    i.wf = true → requestOf i = some (p, k, payload) → s.portEnabled p = true → (s.ports.get p).rx = .hunt →
    (s.ports.get p).toCome = 0 →
      let covered := byte (payload.length + 1) :: k.code :: payload
      exec i (s.setPort p
        { s.ports.get p with crc := crcOf covered, body := k.code :: payload, crcLow := byte (crcOf covered).toNat }) =
        .next (s.receiveAll p (frame k.code payload))

/-- A request at an enabled port with an empty slot is answered: its slot becomes BUSY and holds a response with the
request's KIND and a result, in at least one frame (R184, R185). -/
def Obligations.EveryRequestIsAnswered : Prop :=
  ∀ (i : Instr) (p : Port) (k : RequestKind) (payload : List Byte) (s : State),
    requestOf i = some (p, k, payload) → s.portEnabled p = true → (s.ports.get p).busy = false →
      ∃ t r content, exec i s = .next t ∧ (t.ports.get p).busy = true ∧
        (t.ports.get p).response = responseFrames k.code r content ∧ content ≠ []

/-- What a port does not take. A request that completes while its slot is BUSY is discarded, with OVERRUN posted to
every enabled port and nothing else changed; one at a disabled port is not received; one that the port's list does not
hold is refused with NOT_PERMITTED; and UNKNOWN_KIND, a frame of no known kind, is refused with the result
UNKNOWN_KIND under its own KIND with the top bit set, or is an OVERRUN; nothing else changes (R180, R184 to R187). -/
def Obligations.RequestsTurnedAway : Prop :=
  (∀ (i : Instr) (p : Port) (k : RequestKind) (payload : List Byte) (s : State),
    requestOf i = some (p, k, payload) →
      (s.portEnabled p = true → (s.ports.get p).busy = true → exec i s = .next (s.post .overrun (portCode p))) ∧
      (s.portEnabled p = false → exec i s = .next s) ∧
      (s.portEnabled p = true → (s.ports.get p).busy = false → k.listed p = false →
        exec i s = .next (s.answered p k .notPermitted [[]]))) ∧
  ∀ (p : Port) (kind : Byte) (s : State), s.portEnabled p = true →
    exec (.unknownKind p kind.toNat) s =
      .next (if (s.ports.get p).busy = true then s.post .overrun (portCode p)
        else s.setPort p { s.ports.get p with busy := true, response := [frame (kind ||| 0x80) [0x01]] })

/-- TRANSMISSION_BEGINS makes the transmitter of a port with a response to send SENDING; RESPONSE_SENT makes a SENDING
transmitter IDLE and its slot EMPTY; nothing else changes (R179, R184, R185). -/
def Obligations.TransmissionRuns : Prop :=
  ∀ (p : Port) (s : State),
    ((s.ports.get p).busy = true → (s.ports.get p).sending = false → (s.ports.get p).response ≠ [] →
      exec (.transmissionBegins p) s = .next (s.setPort p { s.ports.get p with sending := true })) ∧
    ((s.ports.get p).sending = true →
      exec (.responseSent p) s =
        .next (s.setPort p { s.ports.get p with busy := false, sending := false, response := [] }))

/-- A post changes every enabled port's own copy: the kind's flag is set, its detail becomes the post's, every other
flag and detail stays, and a disabled port is not changed (R192). -/
def Obligations.PostReachesEnabledPorts : Prop :=
  ∀ (k : EventKind) (d : Nat) (s : State) (p : Port),
    (s.portEnabled p = true →
      (∀ j : Fin 19, ((s.post k d).ports.get p).flags.getLsbD j.val =
        (decide (j = k.code) || (s.ports.get p).flags.getLsbD j.val)) ∧
      (∀ j : Fin 19, ((s.post k d).ports.get p).details[j] = if j = k.code then d else (s.ports.get p).details[j])) ∧
    (s.portEnabled p = false → (s.post k d).ports.get p = s.ports.get p)

/-- READ_EVENTS returns the port's flags, details and mask and changes nothing else. CLEAR_EVENTS clears the flags
that its set names with their details, SET_EVENT_MASK replaces the mask, each on the port that receives it alone, and
the attention line follows; an event set that names no event kind is refused with OUT_OF_RANGE (R193, R194, R196). -/
def Obligations.EventRequestsActOnOwnPort : Prop :=
  ∀ (p : Port) (set : BitVec 32) (s : State),
    (s.Takes p .readEvents → exec (.readEvents p) s =
      .next (s.answered p .readEvents .ok
        [le4 (s.ports.get p).flags.toNat ++ (s.ports.get p).details.toList.flatMap le2 ++
          le4 (s.ports.get p).mask.toNat])) ∧
    (s.Takes p .clearEvents → set.toNat < 2 ^ 19 → ∃ r : PortRecord,
      exec (.clearEvents p set) s = .next ((s.setPort p r).answered p .clearEvents .ok [[]]) ∧
        r = { s.ports.get p with flags := r.flags, details := r.details, attention := r.attention, busy := r.busy } ∧
        r.flags = (s.ports.get p).flags &&& ~~~(set.setWidth 19) ∧
        (∀ k : Fin 19, r.details[k] = if set.getLsbD k.val then 0 else (s.ports.get p).details[k]) ∧
        (r.attention = true ↔ r.flags &&& r.mask ≠ 0)) ∧
    (s.Takes p .setEventMask → set.toNat < 2 ^ 19 → ∃ r : PortRecord,
      exec (.setEventMask p set) s = .next ((s.setPort p r).answered p .setEventMask .ok [[]]) ∧
        r = { s.ports.get p with mask := set.setWidth 19, attention := r.attention, busy := r.busy } ∧
        (r.attention = true ↔ r.flags &&& r.mask ≠ 0)) ∧
    (2 ^ 19 ≤ set.toNat →
      (s.Takes p .clearEvents →
        exec (.clearEvents p set) s = .next (s.answered p .clearEvents .outOfRange [[]])) ∧
      (s.Takes p .setEventMask →
        exec (.setEventMask p set) s = .next (s.answered p .setEventMask .outOfRange [[]])))

/-! ## The tables -/

/-- WRITE_CONFLICT_ROW: WRONG_MODE outside DARK, FLASH and FAULT_FLASH, OUT_OF_RANGE for a group outside 1 to 24 or an
entry that is neither 0 to 250 nor 255, the matrix unchanged in both; else the 24 entries (c, g) are replaced, 255
being no conflict, every other entry and everything else stays, and the response is OK (R25). -/
def Obligations.WriteConflictRowStores : Prop :=
  ∀ (p : Port) (group : Nat) (row : Vector Nat 24) (s : State), s.Takes p .writeConflictRow →
    (s.mc.mode.isIdle = false →
      exec (.writeConflictRow p group row) s = .next (s.answered p .writeConflictRow .wrongMode [[]])) ∧
    (s.mc.mode.isIdle = true → (¬(1 ≤ group ∧ group ≤ 24) ∨ ∃ g : Fin 24, 250 < row[g] ∧ row[g] ≠ 255) →
      exec (.writeConflictRow p group row) s = .next (s.answered p .writeConflictRow .outOfRange [[]])) ∧
    (s.mc.mode.isIdle = true → 1 ≤ group → group ≤ 24 → (∀ g : Fin 24, row[g] ≤ 250 ∨ row[g] = 255) →
      ∃ m, exec (.writeConflictRow p group row) s =
          .next (State.answered { s with tables := { s.tables with matrix := m } } p .writeConflictRow .ok [[]]) ∧
        ∀ c g : Fin 24, m[c][g] =
          if c.val + 1 = group then (if row[g] = 255 then none else some row[g]) else s.intergreen c g)

/-- WRITE_STAGE: WRONG_MODE outside DARK, FLASH and FAULT_FLASH, OUT_OF_RANGE for a stage outside 1 to 16, a mark
without a code, or a configured set that names a group outside 1 to 24; else that stage is replaced, not configured
where the mark is no, and nothing else changes; stage 0 stays configured and empty (R26, R196). -/
def Obligations.WriteStageStores : Prop :=
  ∀ (p : Port) (stage mark : Nat) (set : BitVec 32) (s : State), s.Takes p .writeStage →
    (s.mc.mode.isIdle = false →
      exec (.writeStage p stage mark set) s = .next (s.answered p .writeStage .wrongMode [[]])) ∧
    (s.mc.mode.isIdle = true →
      (¬(1 ≤ stage ∧ stage ≤ 16) ∨ 1 < mark ∨ (mark = 1 ∧ 2 ^ 24 ≤ set.toNat)) →
      exec (.writeStage p stage mark set) s = .next (s.answered p .writeStage .outOfRange [[]])) ∧
    (s.mc.mode.isIdle = true → 1 ≤ stage → stage ≤ 16 → (mark = 0 ∨ (mark = 1 ∧ set.toNat < 2 ^ 24)) →
      ∃ v, exec (.writeStage p stage mark set) s =
          .next (State.answered { s with tables := { s.tables with stages := v } } p .writeStage .ok [[]]) ∧
        ∀ st : StageId, Tables.stage { s.tables with stages := v } st =
          if st.val = stage then (if mark = 0 then none else some (set.setWidth 24)) else s.tables.stage st)

/-- WRITE_GROUP, accepted in DARK, FLASH and FAULT_FLASH with the times of its kind in range, or with kind UNUSED and
any times, which are stored as 0 with red-monitored no: the record is replaced, every other record stays, the groups
other than the written one stay as they are, and the written one stays too unless its kind changed, when it moves to
the state that the mode gives its new kind; no mode or authority changes. Refused with WRONG_MODE in the other modes;
with OUT_OF_RANGE for a group outside 1 to 24, a kind or a red-monitored byte without a code (for kind UNUSED too: the
model's reading, notes/assumptions/20.md), or a time outside the range of the written kind; nothing else changes then
(R4, R8, R196). -/
def Obligations.WriteGroupStores : Prop :=
  (∀ (p : Port) (g : GroupId) (c : GroupConfig) (w : GroupWrite) (s : State), s.Takes p .writeGroup →
    s.mc.mode.isIdle = true → s.IdleQuiet →
    ((w.kind = 0 ∧ w.group = g.val + 1 ∧ w.redMonitored ≤ 1 ∧ c = ⟨.unused, 0, 0, 0, false⟩) ∨
      (c.kind ≠ .unused ∧ w = c.asWrite g ∧ c.kind.timesFit c.clearTime c.prepareTime c.minStop = true)) →
      ∃ t, exec (.writeGroup p w) s = .next t ∧ t.Responds p .writeGroup .ok ∧ t.mc = s.mc ∧
        t.cfg g = c ∧ (∀ h, h ≠ g → t.cfg h = s.cfg h ∧ t.grp h = s.grp h) ∧ t.tables.matrix = s.tables.matrix ∧
        t.tables.stages = s.tables.stages ∧ t.tables.junction = s.tables.junction ∧ t.pu = s.pu ∧
        t.grp g = { s.grp g with
          state := if s.kind g = c.kind then (s.grp g).state
            else if s.mc.mode ≠ .dark ∧ c.kind = .vehicle then .flash else .dark }) ∧
  ∀ (p : Port) (w : GroupWrite) (s : State), s.Takes p .writeGroup →
    (s.mc.mode.isIdle = false → exec (.writeGroup p w) s = .next (s.answered p .writeGroup .wrongMode [[]])) ∧
    (s.mc.mode.isIdle = true →
      (¬(1 ≤ w.group ∧ w.group ≤ 24) ∨ 3 < w.kind ∨ 1 < w.redMonitored ∨
        (w.kind = 1 ∧ ¬(30 ≤ w.clearTime ∧ w.clearTime ≤ 60 ∧ w.prepareTime ≤ 30 ∧ w.minStop ≤ 100)) ∨
        (w.kind = 2 ∧ ¬(w.clearTime ≤ 200 ∧ w.prepareTime = 0 ∧ w.minStop ≤ 100)) ∨
        (w.kind = 3 ∧ ¬(20 ≤ w.clearTime ∧ w.clearTime ≤ 60 ∧ w.prepareTime = 0 ∧ w.minStop ≤ 100))) →
      exec (.writeGroup p w) s = .next (s.answered p .writeGroup .outOfRange [[]]))

/-- WRITE_JUNCTION with its fields in range: accepted in DARK, FLASH and FAULT_FLASH, and in the other modes where its
stage fields and standby sequence equal those stored; the junction record becomes the one written and nothing else
changes, but for permission NONE in CENTRAL, where the junction falls through to LOCAL with L alive, and else to
STANDBY or, with an empty sequence, to CLOSING. In the other modes a record whose stage fields or sequence differ is
refused with WRONG_MODE. A field out of its range is refused with OUT_OF_RANGE in every mode (R27, R28, R99, R115,
R117, R190). -/
def Obligations.WriteJunctionStores : Prop :=
  ∀ (p : Port) (j : Junction) (s : State), s.Takes p .writeJunction → junctionRecord? j.asWrite = some j →
    let same : Prop := j.startStage = s.tables.junction.startStage ∧ j.restStage = s.tables.junction.restStage ∧
      j.priority = s.tables.junction.priority ∧ j.sequence = s.tables.junction.sequence
    ((s.mc.mode.isIdle = true ∨ same) → ¬(j.permission = .none ∧ s.mc.mode = .centralMode) →
      exec (.writeJunction p j.asWrite) s =
        .next (State.answered { s with tables := { s.tables with junction := j } } p .writeJunction .ok [[]])) ∧
    (same → j.permission = .none → s.mc.mode = .centralMode → s.Undisturbed →
      ∃ t, exec (.writeJunction p j.asWrite) s = .next t ∧ t.Responds p .writeJunction .ok ∧
        t.tables = { s.tables with junction := j } ∧
        t.mc.mode = (if s.mc.localAlive = true then .localMode else if j.sequence = [] then .closing else .standby) ∧
        (s.mc.localAlive = true → t.arb.target = s.arb.target ∧ t.arb.demand = none ∧ t.groups = s.groups)) ∧
    (s.mc.mode.isIdle = false → ¬same →
      exec (.writeJunction p j.asWrite) s = .next (s.answered p .writeJunction .wrongMode [[]])) ∧
    ∀ w : JunctionWrite,
      (16 < w.startStage ∨ 16 < w.restStage ∨ (∃ g : Fin 24, 16 < w.priority[g]) ∨ 16 < w.seqLength ∨
        (∃ n : Fin 16, n.val < w.seqLength ∧ 16 < w.seq[n]) ∨ 2 < w.permission ∨
        ¬(10 ≤ w.localTime ∧ w.localTime ≤ 100) ∨ ¬(10 ≤ w.centralPeriod ∧ w.centralPeriod ≤ 600) ∨
        ¬(30 ≤ w.startupRed ∧ w.startupRed ≤ 100) ∨ ¬(30 ≤ w.closingRed ∧ w.closingRed ≤ 100) ∨ 3 < w.standbyPlan ∨
        (w.flasherRate ≠ 40 ∧ w.flasherRate ≠ 50 ∧ w.flasherRate ≠ 60)) →
      exec (.writeJunction p w) s = .next (s.answered p .writeJunction .outOfRange [[]])

/-- WRITE_OUTPUT, accepted in DARK, FLASH and FAULT_FLASH for every source and polarity: the channel's record is
replaced, its force is not touched, its lit value is formed anew and its drive level follows the new polarity; every
other channel's record, force and lit value stay, and so do the groups and the modes. Elsewhere it is refused with
WRONG_MODE, and in those modes with OUT_OF_RANGE for a channel outside 1 to 72, a source or a polarity without a code,
or a group, role or detector channel that the source uses and that is none. That the drive chain is loaded at the
write itself is the model's choice (notes/assumptions/11.md) (R166, R167, R196). -/
def Obligations.WriteOutputStores : Prop :=
  ∀ (p : Port) (o : OutId) (c : OutputConfig) (s : State), s.Takes p .writeOutput →
    (s.mc.mode.isIdle = true →
      ∃ t, exec (.writeOutput p (c.asWrite o)) s = .next t ∧ t.Responds p .writeOutput .ok ∧ t.tables.outputs[o] = c ∧
        t.out.force = s.out.force ∧ t.out.lit[o] = t.formLit o ∧ t.out.chain.getLsbD o.val = t.driveLevel o ∧
        (∀ q : Fin 72, q ≠ o → t.tables.outputs[q] = s.tables.outputs[q] ∧ t.out.lit[q] = s.out.lit[q] ∧
          t.out.chain.getLsbD q.val = s.out.chain.getLsbD q.val) ∧
        t.groups = s.groups ∧ t.mc = s.mc ∧ t.arb = s.arb ∧ t.pu = s.pu) ∧
    ∀ w : OutputWrite,
      (s.mc.mode.isIdle = false →
        exec (.writeOutput p w) s = .next (s.answered p .writeOutput .wrongMode [[]])) ∧
      (s.mc.mode.isIdle = true →
        (¬(1 ≤ w.channel ∧ w.channel ≤ 72) ∨ 6 < w.source ∨ 1 < w.polarity ∨
          ((w.source = 2 ∨ w.source = 5) ∧ ¬(1 ≤ w.arg ∧ w.arg ≤ 24)) ∨ (w.source = 2 ∧ 2 < w.role) ∨
          (w.source = 6 ∧ ¬(1 ≤ w.arg ∧ w.arg ≤ 32))) →
        exec (.writeOutput p w) s = .next (s.answered p .writeOutput .outOfRange [[]]))

/-- FORCE_OUTPUT in DARK: the channel's force becomes ON, OFF or absent, its lit value is formed anew, and every other
channel's force and lit value stay; in another mode it is refused with WRONG_MODE, and in DARK with OUT_OF_RANGE for a
channel outside 1 to 72 or a force without a code (R169, R167). -/
def Obligations.ForceOutputPlaces : Prop :=
  ∀ (p : Port) (o : OutId) (f : Option Bool) (s : State), s.Takes p .forceOutput →
    (s.mc.mode = .dark →
      ∃ t, exec (.forceOutput p (o.val + 1) (forceCode f)) s = .next t ∧ t.Responds p .forceOutput .ok ∧
        t.out.force[o] = f ∧ t.out.lit[o] = t.formLit o ∧
        (∀ q : Fin 72, q ≠ o → t.out.force[q] = s.out.force[q] ∧ t.out.lit[q] = s.out.lit[q]) ∧
        t.tables = s.tables ∧ t.groups = s.groups ∧ t.mc = s.mc ∧ t.arb = s.arb ∧ t.pu = s.pu) ∧
    (s.mc.mode ≠ .dark → ∀ channel force,
      exec (.forceOutput p channel force) s = .next (s.answered p .forceOutput .wrongMode [[]])) ∧
    (s.mc.mode = .dark → ∀ channel force, ¬(1 ≤ channel ∧ channel ≤ 72) ∨ 2 < force →
      exec (.forceOutput p channel force) s = .next (s.answered p .forceOutput .outOfRange [[]]))

/-- WRITE_DETECTOR with its fields in range: accepted in DARK, FLASH and FAULT_FLASH, and in the other modes where the
configuration fields equal those stored. All nine fields become those written; the channel enters its start state or
DISABLED where its enabled field changed, with its stretch timer idle, and keeps its state else; no count or total
changes, and no other channel. In the other modes a record with another configuration field is refused with
WRONG_MODE. In every mode a channel outside 1 to 32, a set that names a group outside 1 to 24, or a field outside its
range is refused with OUT_OF_RANGE (R28, R136, R152 to R154, R196). -/
def Obligations.WriteDetectorStores : Prop :=
  (∀ (p : Port) (w : DetectorWrite) (s : State), s.Takes p .writeDetector →
    (¬(1 ≤ w.channel ∧ w.channel ≤ 32) ∨ 1 < w.enabled ∨ 2 ^ 24 ≤ w.demandSet.toNat ∨ 2 ^ 24 ≤ w.extensionSet.toNat ∨
      1 < w.demandType ∨ 1 < w.activity ∨ 1 < w.substitution ∨ 100 < w.stretch ∨ w.sensitivity < 20 ∨
      20000 < w.sensitivity ∨ (w.presence ≠ 0 ∧ w.presence < 10) ∨ 3600 < w.presence) →
      exec (.writeDetector p w) s = .next (s.answered p .writeDetector .outOfRange [[]])) ∧
  ∀ (p : Port) (ch : ChanId) (d : DetectorConfig) (sensitivity presence : Nat) (s : State), s.Takes p .writeDetector →
    d.stretch ≤ 100 → 20 ≤ sensitivity → sensitivity ≤ 20000 →
    (presence = 0 ∨ 10 ≤ presence ∧ presence ≤ 3600) →
      ((s.mc.mode.isIdle = true ∨ s.tables.detectors[ch].sameConfig d = true) →
        ∃ t, exec (.writeDetector p (d.asWrite ch sensitivity presence)) s = .next t ∧ t.Responds p .writeDetector .ok ∧
          t.tables.detectors[ch] = d ∧ t.chans[ch].sensitivity = sensitivity ∧ t.chans[ch].presence = presence ∧
          t.chans[ch].state = (if d.enabled = s.tables.detectors[ch].enabled then s.chans[ch].state
            else if d.enabled = true then (if (s.bank (bankOf ch)).mode = .loop then .untuned else .vacant)
            else .disabled) ∧
          (d.enabled ≠ s.tables.detectors[ch].enabled → t.det.stretch[ch] = none ∧ t.chans[ch].baseline = none ∧
            t.chans[ch].fault = none ∧ t.chans[ch].confirm = none ∧ t.chans[ch].faultRun = none) ∧
          t.det.count = s.det.count ∧ t.det.total = s.det.total ∧
          (∀ i : Fin 32, i ≠ ch → t.tables.detectors[i] = s.tables.detectors[i] ∧ t.chans[i] = s.chans[i] ∧
            t.det.stretch[i] = s.det.stretch[i])) ∧
      (s.mc.mode.isIdle = false → s.tables.detectors[ch].sameConfig d = false →
        exec (.writeDetector p (d.asWrite ch sensitivity presence)) s =
          .next (s.answered p .writeDetector .wrongMode [[]]))

/-- WRITE_BANK in DARK, FLASH and FAULT_FLASH with its fields in range: the bank's record is replaced. Where the mode
changed, or Nc in a LOOP bank, every enabled channel of the bank restarts: it enters the start state of the mode with
its fault, baseline, last d, runs and occupied elapsed cleared and its stretch timer idle; a LOOP bank's engine begins
a visit at its lowest enabled channel, and a CONTACT bank has none. Where K changed with neither, the confirmation run
of every channel of the bank and the recovery run of a STUCK one restart at 0, and everything else is kept, fault
runs, loop recovery runs and the visit in flight too. Where nothing of that changed, no channel changes; nor do other
banks' channels and engines, counts and totals. In the other modes it is refused with WRONG_MODE, and in those three
with OUT_OF_RANGE for a bank, a mode, an Nc or a K out of range (R133, R134, R136, R137, R158). -/
def Obligations.WriteBankStores : Prop :=
  ∀ (p : Port) (s : State), s.Takes p .writeBank →
    (∀ w : BankWrite,
      (s.mc.mode.isIdle = false → exec (.writeBank p w) s = .next (s.answered p .writeBank .wrongMode [[]])) ∧
      (s.mc.mode.isIdle = true →
        (3 < w.bank ∨ 1 < w.mode ∨ (w.nc ≠ 256 ∧ w.nc ≠ 512 ∧ w.nc ≠ 1024) ∨ ¬(1 ≤ w.k ∧ w.k ≤ 4)) →
        exec (.writeBank p w) s = .next (s.answered p .writeBank .outOfRange [[]]))) ∧
    ∀ (b : BankId) (c : BankConfig),
      s.mc.mode.isIdle = true → (c.nc = 256 ∨ c.nc = 512 ∨ c.nc = 1024) → 1 ≤ c.k → c.k ≤ 4 →
      let restart : Prop := c.mode ≠ (s.bank b).mode ∨ (c.mode = .loop ∧ c.nc ≠ (s.bank b).nc)
      ∃ t, exec (.writeBank p (c.asWrite b)) s = .next t ∧ t.Responds p .writeBank .ok ∧
        t.tables = { s.tables with banks := s.tables.banks.set b c } ∧ t.det.count = s.det.count ∧
        t.det.total = s.det.total ∧
        (∀ ch : Fin 32, bankOf ch ≠ b → t.chans[ch] = s.chans[ch] ∧ t.det.stretch[ch] = s.det.stretch[ch]) ∧
        (∀ b' : Fin 4, b' ≠ b → t.engines[b'] = s.engines[b']) ∧
        (∀ ch : Fin 32, bankOf ch = b →
          (restart → s.chanEnabled ch = true → t.det.stretch[ch] = none ∧ t.chans[ch] = { s.chans[ch] with
            state := if c.mode = .loop then .untuned else .vacant
            fault := none, baseline := none, lastD := 0, confirm := none, faultRun := none, recovery := 0,
            occupied := 0 }) ∧
          (restart → s.chanEnabled ch = false →
            t.chans[ch] = s.chans[ch] ∧ t.det.stretch[ch] = s.det.stretch[ch]) ∧
          (¬restart → t.det.stretch[ch] = s.det.stretch[ch] ∧ t.chans[ch] =
            if c.k = (s.bank b).k then s.chans[ch]
            else { s.chans[ch] with
              confirm := none
              recovery := if s.chans[ch].fault = some .stuck then 0 else s.chans[ch].recovery })) ∧
        (¬restart → t.engines[b] = s.engines[b]) ∧
        (restart →
          (c.mode = .contact ∨ (∀ ch, bankOf ch = b → s.chanEnabled ch = false) → t.engines[b] = none) ∧
          (c.mode = .loop → ∀ ch, bankOf ch = b → s.chanEnabled ch = true →
            (∀ i, bankOf i = b → s.chanEnabled i = true → ch ≤ i) → t.engines[b] = some ⟨ch, c.nc⟩))

/-- WRITE_PLAN: OUT_OF_RANGE for a plan above 3; IN_USE for the active and the pending plan; OUT_OF_RANGE for a field
out of range; else that plan's record becomes the one written and nothing else changes, in every mode (R191). -/
def Obligations.WritePlanStores : Prop :=
  ∀ (p : Port) (n : PlanId) (c : Plan) (s : State), s.Takes p .writePlan →
    (∀ w : PlanWrite, 3 < w.plan → exec (.writePlan p w) s = .next (s.answered p .writePlan .outOfRange [[]])) ∧
    ((n = s.mc.activePlan ∨ n = s.mc.pendingPlan) →
      exec (.writePlan p (c.asWrite n)) s = .next (s.answered p .writePlan .inUse [[]])) ∧
    (n ≠ s.mc.activePlan → n ≠ s.mc.pendingPlan →
      let fits := (∀ g : Fin 24, 30 ≤ c.minGo[g] ∧ c.minGo[g] ≤ 600 ∧ c.minGo[g] ≤ c.maxGo[g] ∧ c.maxGo[g] ≤ 1800) ∧
        c.margin ≤ 100 ∧ 10 ≤ c.passage ∧ c.passage ≤ 100 ∧ c.maxExt ≤ 300 ∧ c.recovery ≤ 1200 ∧
        100 ≤ c.callTimeout ∧ c.callTimeout ≤ 3000 ∧ (c.restDelay = 0 ∨ 50 ≤ c.restDelay ∧ c.restDelay ≤ 6000)
      (fits → exec (.writePlan p (c.asWrite n)) s =
        .next (State.answered { s with tables := { s.tables with plans := s.tables.plans.set n c } } p .writePlan .ok
          [[]])) ∧
      (¬fits → exec (.writePlan p (c.asWrite n)) s = .next (s.answered p .writePlan .outOfRange [[]])))

/-- READ_TABLE, taken in every mode, returns the entry as stored in the layout of the write that stores it, and changes
nothing else; a table or an index without an entry is refused with OUT_OF_RANGE. That the set of a stage that is not
configured reads as four bytes of 0 is the model's choice (notes/assumptions/33.md) (R189, 11.4). -/
def Obligations.ReadTableReturnsEntry : Prop :=
  ∀ (p : Port) (table index : Nat) (s : State), s.Takes p .readTable →
    (∀ g : GroupId, table = 0 → index = g.val + 1 → exec (.readTable p table index) s =
      .next (s.answered p .readTable .ok [groupPayload ((s.cfg g).asWrite g)])) ∧
    (∀ g : GroupId, table = 1 → index = g.val + 1 → exec (.readTable p table index) s =
      .next (s.answered p .readTable .ok
        [byte (g.val + 1) :: groupIds.map fun h => byte ((s.intergreen g h).getD 255)])) ∧
    (∀ st : StageId, table = 2 → index = st.val → exec (.readTable p table index) s =
      .next (s.answered p .readTable .ok
        [match s.tables.stage st with
          | some set => [byte st.val, 1] ++ le4 set.toNat
          | none => [byte st.val, 0, 0, 0, 0, 0]])) ∧
    (table = 3 → exec (.readTable p table index) s =
      .next (s.answered p .readTable .ok [junctionPayload s.tables.junction.asWrite])) ∧
    (∀ o : OutId, table = 4 → index = o.val + 1 → exec (.readTable p table index) s =
      .next (s.answered p .readTable .ok
        [outputPayload (s.tables.outputs[o].asWrite o) ++
          [byte (forceCode s.out.force[o]), byte s.out.lit[o].code, byte s.lm.lamps[o].status.code]])) ∧
    (∀ ch : ChanId, table = 5 → index = ch.val + 1 → exec (.readTable p table index) s =
      .next (s.answered p .readTable .ok
        [detectorPayload (s.tables.detectors[ch].asWrite ch s.chans[ch].sensitivity s.chans[ch].presence)])) ∧
    (∀ b : BankId, table = 6 → index = b.val → exec (.readTable p table index) s =
      .next (s.answered p .readTable .ok [bankPayload ((s.bank b).asWrite b)])) ∧
    (∀ n : PlanId, table = 7 → index = n.val → exec (.readTable p table index) s =
      .next (s.answered p .readTable .ok [planPayload (s.tables.plans[n].asWrite n)])) ∧
    (7 < table ∨ (table ≤ 1 ∧ ¬(1 ≤ index ∧ index ≤ 24)) ∨ (table = 2 ∧ 16 < index) ∨
        (table = 4 ∧ ¬(1 ≤ index ∧ index ≤ 72)) ∨ (table = 5 ∧ ¬(1 ≤ index ∧ index ≤ 32)) ∨
        ((table = 6 ∨ table = 7) ∧ 3 < index) →
      exec (.readTable p table index) s = .next (s.answered p .readTable .outOfRange [[]]))

/-- What a well-formed write stores is what its payload said: a conflict row, a detector record, a bank record and a
plan, read back from the tables after the accepted write, are byte for byte the payload that wrote them (R25, R134,
R153, R189, R191). -/
def Obligations.ReadsBackWhatWasWritten : Prop :=
  ∀ (p : Port) (s t : State),
    (∀ group (row : Vector Nat 24) (c : GroupId), (Instr.writeConflictRow p group row).wf = true → group = c.val + 1 →
      s.Takes p .writeConflictRow → exec (.writeConflictRow p group row) s = .next t →
        t.Responds p .writeConflictRow .ok → t.tableContent (.conflictRow c) = conflictPayload group row) ∧
    (∀ (w : DetectorWrite) (ch : ChanId), w.wf = true → w.channel = ch.val + 1 → s.Takes p .writeDetector →
      exec (.writeDetector p w) s = .next t → t.Responds p .writeDetector .ok →
        t.tableContent (.detector ch) = detectorPayload w) ∧
    (∀ (w : BankWrite) (b : BankId), w.wf = true → w.bank = b.val → s.Takes p .writeBank →
      exec (.writeBank p w) s = .next t → t.Responds p .writeBank .ok →
        t.tableContent (.bank b) = bankPayload w) ∧
    ∀ (w : PlanWrite) (n : PlanId), w.wf = true → w.plan = n.val → s.Takes p .writePlan →
      exec (.writePlan p w) s = .next t → t.Responds p .writePlan .ok →
        t.tableContent (.plan n) = planPayload w

/-- READ_STATUS, READ_CALLS and READ_DETECTORS return the junction status record, the call list and the 32 channel
records as they stand, in every mode, field by field in the layouts of 11.5, and change nothing else; absent times are
0xFFFF, and the three segments of READ_DETECTORS have the LENs of R197. READ_COUNTS returns every count and occupancy
total; with the clear flag yes, from port C or from port L while port C is disabled, all become 0 after they are
taken; from port L while port C is enabled, and from port T with either flag, it is refused with NOT_PERMITTED and
nothing is cleared. That what remains of the recovery timer, an action timer, an extension limit and a service end is
read in deciseconds with a begun one counted whole is the model's (notes/assumptions/3.md, DEDUCED from R1: R97 gives
no rounding for the two limits) (R39, R97, R151, R162, R188, R196, R197, 11.5). -/
def Obligations.ReadsReturnRunningRecords : Prop :=
  ∀ (p : Port) (s : State),
    (s.Takes p .readStatus →
      let status : List Byte :=
        [byte s.mc.mode.code, byte s.mc.mode.authority, byte s.mc.startCause.code, byte s.arb.current.val,
          byte s.arb.target.val, if s.arb.stable = true then 0 else 1, byte s.mc.activePlan.val, byte s.mc.pendingPlan.val,
          byte s.straps.junction.val] ++
        (groupIds.map fun g => byte (s.grp g).state.code) ++ le4 s.det.demand.toNat ++ le4 s.det.extension.toNat ++
        [byte s.pu.calls.length, byte s.pu.stack.length] ++
        groupIds.flatMap fun g => le2 (if s.kind g = .tram then s.clearanceNeed g else 0)
      exec (.readStatus p) s = .next (s.answered p .readStatus .ok [status]) ∧ status.length = 91) ∧
    (s.Takes p .readCalls →
      let until_ (t : Option Nat) : List Byte := le2 ((t.map fun n => dsUp (n - s.now)).getD 0xFFFF)
      let calls : List Byte := [byte s.pu.calls.length, byte s.pu.stack.length] ++ le2 (dsLeft s.pu.recovery) ++
        s.pu.calls.flatMap fun c => le2 c.tram ++ [byte (c.group.val + 1), byte c.cls] ++ le2 c.travel ++
          le2 (wholeDs c.elapsed) ++ le2 (c.travel - wholeDs c.elapsed) ++ le2 c.stamp ++ [byte c.state.code] ++
          le2 ((c.actionTimer.map dsUp).getD 0xFFFF) ++ until_ c.extensionLimit ++ until_ c.serviceEnd
      exec (.readCalls p) s = .next (s.answered p .readCalls .ok [calls]) ∧
        calls.length = 4 + 19 * s.pu.calls.length) ∧
    (s.Takes p .readDetectors →
      ∃ a b c, exec (.readDetectors p) s = .next (s.answered p .readDetectors .ok [0 :: 0 :: a, 1 :: 0 :: b, 2 :: 1 :: c]) ∧
        a ++ b ++ c = (chanIds.flatMap fun ch =>
          [byte s.chans[ch].state.code, byte (faultCode s.chans[ch].fault)] ++ le4 (s.chans[ch].baseline.getD 0) ++
            le4 (BitVec.ofInt 32 s.chans[ch].lastD).toNat ++ le2 s.det.count[ch] ++ le2 s.det.total[ch]) ∧
        (responseFrames (RequestKind.code .readDetectors) .ok [0 :: 0 :: a, 1 :: 0 :: b, 2 :: 1 :: c]).map
          (fun f => f.getD 1 0) = [172, 172, 116]) ∧
    (s.Takes p .readCounts →
      let content := chanIds.flatMap fun ch => le2 s.det.count[ch] ++ le2 s.det.total[ch]
      exec (.readCounts p 0) s = .next (s.answered p .readCounts .ok [content]) ∧
      ((p = .c ∨ s.straps.cen = false) →
        exec (.readCounts p 1) s =
          .next (State.answered
            { s with det := { s.det with count := Vector.replicate 32 0, total := Vector.replicate 32 0 } } p .readCounts
            .ok [content])) ∧
      (p = .l → s.straps.cen = true →
        exec (.readCounts p 1) s = .next (s.answered p .readCounts .notPermitted [[]]))) ∧
    ((s.ports.get .t).busy = false → ∀ flag,
      exec (.readCounts .t flag) s = .next (s.answered .t .readCounts .notPermitted [[]]))

/-! ## The modes and the masters -/

/-- Validation passes exactly where every relation of V1 to V9 holds of the tables: each configured stage holds used
groups that do not conflict (V1); conflicts are between two different used groups and stand in both directions (V2);
every intergreen is at least the clear time of the group that gives way (V3) and at least a gaining VEHICLE group's
prepare time (V4); each TRAM group's priority stage is configured and holds it (V5); the start stage, the rest stage
and the standby sequence name configured stages, the sequence neither stage 0 nor a stage twice running (V6); each
red-monitored group has a STOP-role channel (V7); each group-role channel's group has that role (V8); and no detector
names an UNUSED group (V9) (R29 to R33). -/
def Obligations.ValidationChecksTables : Prop :=
  ∀ s : State, s.validate = none ↔
    (∀ st set, st ≠ 0 → s.tables.stage st = some set → ∀ g, inSet g set = true → s.kind g ≠ .unused ∧
      ∀ c, inSet c set = true → c ≠ g → s.intergreen c g = none) ∧
    (∀ c g, (s.intergreen c g).isSome = true → c ≠ g ∧ s.kind c ≠ .unused ∧ s.kind g ≠ .unused ∧
      (s.intergreen g c).isSome = true) ∧
    (∀ c g i, s.intergreen c g = some i → (s.cfg c).clearTime ≤ i) ∧
    (∀ c g i, s.intergreen c g = some i → s.kind g = .vehicle → (s.cfg g).prepareTime ≤ i) ∧
    (∀ g, s.kind g = .tram → s.priorityStage g ≠ 0 ∧
      ∃ set, s.tables.stage (s.priorityStage g) = some set ∧ inSet g set = true) ∧
    (s.configured s.tables.junction.startStage = true ∧ s.configured s.tables.junction.restStage = true ∧
      (∀ st ∈ s.sequence, st ≠ 0 ∧ s.configured st = true) ∧
      (2 ≤ s.sequence.length → ∀ i, i < s.sequence.length →
        s.sequence.getD i 0 ≠ s.sequence.getD ((i + 1) % s.sequence.length) 0)) ∧
    (∀ g, (s.cfg g).redMonitored = true → ∃ o : Fin 72, s.tables.outputs[o].source = .groupRole g .stop) ∧
    (∀ (o : Fin 72) g r, s.tables.outputs[o].source = .groupRole g r →
      s.kind g ≠ .unused ∧ ¬(s.kind g = .pedestrian ∧ r = .warn)) ∧
    (∀ (ch : Fin 32) g, inSet g s.tables.detectors[ch].demandSet = true ∨
      inSet g s.tables.detectors[ch].extensionSet = true → s.kind g ≠ .unused)

/-- SWITCH_ON from L in DARK or FLASH, or from C in FLASH with permission FULL, on tables that pass validation:
STARTUP, the pending plan active, the sender alive and supervised, every group out of DARK in STOP and every flashing
one in CLEAR, no elapsed since end of GO, the target 0, no force, and the startup red timer running exactly where
every used group stands in STOP (R19, R46, R100 to R103). -/
def Obligations.SwitchOnStartsUp : Prop :=
  ∀ (p : Port) (s : State), s.Takes p .switchOn → s.RightOfWay → s.CallsFit → s.ForcesFit →
    s.validate = none →
    ((p = .l ∧ (s.mc.mode = .dark ∨ s.mc.mode = .flash)) ∨
      (p = .c ∧ s.mc.mode = .flash ∧ s.tables.junction.permission = .full)) →
      ∃ t, exec (.switchOn p) s = .next t ∧ t.Responds p .switchOn .ok ∧ t.mc.mode = .startup ∧
        t.mc.activePlan = s.mc.pendingPlan ∧ t.mc.released = false ∧
        t.mc.localTimer = (if p = .l then some (us s.tables.junction.localTime) else none) ∧
        t.mc.centralTimer = (if p = .c then some (us s.tables.junction.centralPeriod) else none) ∧
        t.mc.localAlive = decide (p = .l) ∧ t.mc.centralAlive = decide (p = .c) ∧
        t.arb.modeTarget = some 0 ∧ t.arb.target = 0 ∧ t.arb.demand = none ∧ t.arb.returnTarget = none ∧
        (∀ g, s.kind g ≠ .unused → (t.grp g).sinceGo = none ∧ (t.grp g).gaining = false ∧
          ((s.grp g).state = .dark → (t.grp g).state = .stop ∧
            (t.grp g).minStopTimer = if (s.cfg g).minStop = 0 then none else some (us (s.cfg g).minStop)) ∧
          ((s.grp g).state = .flash → (t.grp g).state = .clear ∧ (t.grp g).stateTimer = some (us (s.cfg g).clearTime))) ∧
        (∀ o : Fin 72, t.out.force[o] = none) ∧ t.tables = s.tables ∧
        t.mc.startupRed =
          (if ∀ g, s.kind g ≠ .unused → (s.grp g).state = .dark then some (us s.tables.junction.startupRed) else none)

/-- SWITCH_ON refused: from T, and from C without permission FULL, with NOT_PERMITTED; in another mode with
WRONG_MODE; on tables that fail validation with CONFIG_INVALID, which carries the failing check and its offending
item; nothing else changes (R29, R101, R196). -/
def Obligations.SwitchOnRefuses : Prop :=
  (∀ s : State, (s.ports.get .t).busy = false →
    exec (.switchOn .t) s = .next (s.answered .t .switchOn .notPermitted [[]])) ∧
  ∀ (p : Port) (s : State), s.Takes p .switchOn →
    (p = .c → s.tables.junction.permission ≠ .full →
      exec (.switchOn p) s = .next (s.answered p .switchOn .notPermitted [[]])) ∧
    ((p = .l ∧ s.mc.mode ≠ .dark ∧ s.mc.mode ≠ .flash) ∨
        (p = .c ∧ s.tables.junction.permission = .full ∧ s.mc.mode ≠ .flash) →
      exec (.switchOn p) s = .next (s.answered p .switchOn .wrongMode [[]])) ∧
    (∀ f : ConfigFailure, s.validate = some f →
      (p = .l ∧ (s.mc.mode = .dark ∨ s.mc.mode = .flash)) ∨
        (p = .c ∧ s.mc.mode = .flash ∧ s.tables.junction.permission = .full) →
      exec (.switchOn p) s =
        .next (s.answered p .switchOn .configInvalid
          [[byte f.check, byte f.item.code, byte f.first, byte f.second]]))

/-- SWITCH_FLASH from L, or from C with permission FULL, and SWITCH_OFF, in STARTUP, LOCAL, CENTRAL and STANDBY:
CLOSING with the destination FLASH or DARK, the mode target 0, every call and return record dropped; a group in
PREPARE, or in GO with min go still to run, stays in it. In CLOSING they replace the destination alone (R96, R100,
R106 to R108, R13, R15). -/
def Obligations.SwitchingOffCloses : Prop :=
  ∀ (p : Port) (o : Order) (k : RequestKind) (i : Instr) (s : State),
    ((o = .flash ∧ k = .switchFlash ∧ i = .switchFlash p ∧ (p = .c → s.tables.junction.permission = .full)) ∨
      (o = .dark ∧ k = .switchOff ∧ i = .switchOff p)) →
    s.Takes p k →
      (s.mc.mode = .startup ∨ s.mc.mode = .localMode ∨ s.mc.mode = .centralMode ∨ s.mc.mode = .standby →
        ∃ t, exec i s = .next t ∧ t.Responds p k .ok ∧ t.mc.mode = .closing ∧ t.mc.closingDest = some o ∧
          t.mc.startupRed = none ∧ t.mc.released = false ∧ t.arb.modeTarget = some 0 ∧ t.arb.target = 0 ∧
          t.arb.demand = none ∧ t.pu.calls = [] ∧ t.pu.stack = [] ∧ t.pu.recovery = none ∧ t.tables = s.tables ∧
          ∀ g, ((s.grp g).state = .prepare → (t.grp g).state = .prepare) ∧
            ((s.grp g).state = .go → (s.grp g).minGoLapsed = false → (t.grp g).state = .go)) ∧
      (s.mc.mode = .closing →
        exec i s =
          .next (State.answered { s with mc := { s.mc with closingDest := some o } } p k .ok [[]]))

/-- SWITCH_FLASH and SWITCH_OFF outside running: in DARK a SWITCH_FLASH from L lights every VEHICLE group FLASH and
leaves the others DARK; in FLASH a SWITCH_OFF puts every group in DARK; a SWITCH_FLASH in FLASH and a SWITCH_OFF in
DARK change nothing; in FAULT_FLASH, and a SWITCH_FLASH from C in DARK, they are refused with WRONG_MODE, and from C
without permission FULL with NOT_PERMITTED (R20, R106, R107). -/
def Obligations.SwitchingOutsideRunning : Prop :=
  ∀ (p : Port) (s : State),
    (s.Takes p .switchFlash →
      (p = .l → s.mc.mode = .dark → s.IdleQuiet → s.CallsFit → ∃ t, exec (.switchFlash p) s = .next t ∧
        t.Responds p .switchFlash .ok ∧ t.mc.mode = .flash ∧ (∀ o : Fin 72, t.out.force[o] = none) ∧
        ∀ g, s.kind g ≠ .unused → (t.grp g).state = if s.kind g = .vehicle then .flash else .dark) ∧
      ((p = .c → s.tables.junction.permission = .full) → s.mc.mode = .flash →
        exec (.switchFlash p) s = .next (s.answered p .switchFlash .ok [[]])) ∧
      ((p = .c → s.tables.junction.permission = .full) → s.mc.mode = .faultFlash ∨ (s.mc.mode = .dark ∧ p = .c) →
        exec (.switchFlash p) s = .next (s.answered p .switchFlash .wrongMode [[]])) ∧
      (p = .c → s.tables.junction.permission ≠ .full →
        exec (.switchFlash p) s = .next (s.answered p .switchFlash .notPermitted [[]]))) ∧
    (s.Takes p .switchOff →
      (s.mc.mode = .flash → s.IdleQuiet → s.CallsFit → ∃ t, exec (.switchOff p) s = .next t ∧
        t.Responds p .switchOff .ok ∧ t.mc.mode = .dark ∧ ∀ g, s.kind g ≠ .unused → (t.grp g).state = .dark) ∧
      (s.mc.mode = .dark → exec (.switchOff p) s = .next (s.answered p .switchOff .ok [[]])) ∧
      (s.mc.mode = .faultFlash → exec (.switchOff p) s = .next (s.answered p .switchOff .wrongMode [[]])))

/-- FAULT_RESET in FAULT_FLASH, where the latest lamp sample found no conflict: FLASH, the fault line inactive, every
VEHICLE group in FLASH and every other used one in DARK; elsewhere, or while the sample shows a conflict, WRONG_MODE.
From C and T it is NOT_PERMITTED (R20, R111). -/
def Obligations.FaultResetReturnsToFlash : Prop :=
  (∀ (q : Port) (s : State), q ≠ .l → s.portEnabled q = true → (s.ports.get q).busy = false →
    exec (.faultReset q) s = .next (s.answered q .faultReset .notPermitted [[]])) ∧
  ∀ (p : Port) (s : State), s.Takes p .faultReset →
    (s.mc.mode = .faultFlash → s.lm.latestConflict = false → s.IdleQuiet → s.CallsFit →
      ∃ t, exec (.faultReset p) s = .next t ∧ t.Responds p .faultReset .ok ∧ t.mc.mode = .flash ∧
        t.mc.faultLine = false ∧
        ∀ g, s.kind g ≠ .unused → (t.grp g).state = if s.kind g = .vehicle then .flash else .dark) ∧
    (s.mc.mode ≠ .faultFlash ∨ s.lm.latestConflict = true →
      exec (.faultReset p) s = .next (s.answered p .faultReset .wrongMode [[]]))

/-- STAGE_DEMAND. From L in LOCAL or C in CENTRAL it names the new target, refreshes its port and makes the return
target absent; from L in STARTUP it is stored and changes no target; from L in STANDBY it also moves authority to
LOCAL and stops the cycle. A stage that is not configured is refused with OUT_OF_RANGE, a port without authority with
NOT_AUTHORITY and a refresh, DARK, FLASH, FAULT_FLASH and CLOSING with WRONG_MODE, C without permission with
NOT_PERMITTED (R45, R50, R91, R113, R119). -/
def Obligations.StageDemandNamesTarget : Prop :=
  ∀ (p : Port) (st : StageId) (s : State), s.Takes p .stageDemand →
    (p = .c → s.tables.junction.permission = .none → ∀ n,
      exec (.stageDemand p n) s = .next (s.answered p .stageDemand .notPermitted [[]])) ∧
    ((p = .c → s.tables.junction.permission ≠ .none) →
      (s.configured st = true → s.Undisturbed →
        ((p = .l ∧ s.mc.mode = .localMode) ∨ (p = .c ∧ s.mc.mode = .centralMode) ∨
          (p = .l ∧ s.mc.mode = .standby)) → s.arb.modeTarget = none →
          ∃ t, exec (.stageDemand p st.val) s = .next t ∧ t.Responds p .stageDemand .ok ∧ t.arb.demand = some st ∧
            t.arb.target = st ∧ t.arb.returnTarget = none ∧
            t.mc.mode = (if s.mc.mode = .centralMode then .centralMode else .localMode) ∧
            (p = .l → t.mc.localTimer = some (us s.tables.junction.localTime) ∧ t.mc.localAlive = true) ∧
            (p = .c → t.mc.centralTimer = some (us s.tables.junction.centralPeriod) ∧ t.mc.centralAlive = true) ∧
            (s.mc.mode = .standby → t.sb = Standby.reset)) ∧
      (s.configured st = true → p = .l → s.mc.mode = .startup → s.arb.modeTarget = some s.arb.target →
        exec (.stageDemand p st.val) s =
          .next (State.answered
            { s with
              arb := { s.arb with demand := some st, returnTarget := none }
              mc := { s.mc with localTimer := some (us s.tables.junction.localTime), localAlive := true }
              pu := { s.pu with stack := s.pu.stack.map fun r => { r with stale := true } } } p .stageDemand .ok
            [[]])) ∧
      (demandAuthority p s.mc.mode = true → ∀ n, (∀ u : StageId, u.val = n → s.configured u = false) →
        exec (.stageDemand p n) s = .next (s.answered p .stageDemand .outOfRange [[]])) ∧
      (demandAuthority p s.mc.mode = false → s.mc.mode.isIdle = false → s.mc.mode ≠ .closing → ∀ n,
        exec (.stageDemand p n) s = .next ((s.refreshPort p).answered p .stageDemand .notAuthority [[]])) ∧
      (s.mc.mode.isIdle = true ∨ s.mc.mode = .closing → ∀ n,
        exec (.stageDemand p n) s = .next (s.answered p .stageDemand .wrongMode [[]])))

/-- REFRESH starts its port's supervision timer with the full time and makes the port alive, in STARTUP, LOCAL,
CENTRAL, STANDBY and CLOSING; in DARK, FLASH and FAULT_FLASH it is answered with OK and has no effect. SELECT_PLAN
from the port that holds authority makes the named plan pending and changes nothing else; a plan above 3 is refused
with OUT_OF_RANGE, a port without authority with NOT_AUTHORITY. From T, and from C with permission NONE, both are
refused with NOT_PERMITTED (R113, R115, R121). -/
def Obligations.RefreshAndSelectPlan : Prop :=
  (∀ (n : Nat) (s : State), (s.ports.get .t).busy = false →
    exec (.refresh .t) s = .next (s.answered .t .refresh .notPermitted [[]]) ∧
    exec (.selectPlan .t n) s = .next (s.answered .t .selectPlan .notPermitted [[]])) ∧
  ∀ (p : Port) (n : Nat) (s : State),
    (s.Takes p .refresh →
      (p = .l → s.mc.mode.isIdle = false → exec (.refresh p) s =
        .next (State.answered
          { s with mc := { s.mc with localTimer := some (us s.tables.junction.localTime), localAlive := true } } p .refresh .ok
          [[]])) ∧
      (p = .c → s.tables.junction.permission ≠ .none → s.mc.mode.isIdle = false → exec (.refresh p) s =
        .next (State.answered
          { s with mc := { s.mc with centralTimer := some (us s.tables.junction.centralPeriod), centralAlive := true } } p
          .refresh .ok [[]])) ∧
      ((p = .c → s.tables.junction.permission ≠ .none) → s.mc.mode.isIdle = true →
        exec (.refresh p) s = .next (s.answered p .refresh .ok [[]])) ∧
      (p = .c → s.tables.junction.permission = .none →
        exec (.refresh p) s = .next (s.answered p .refresh .notPermitted [[]]))) ∧
    (s.Takes p .selectPlan →
      let authority := (p = .l ∧ s.mc.mode ≠ .centralMode ∧ s.mc.mode ≠ .standby) ∨
        (p = .c ∧ s.mc.mode = .centralMode)
      (p = .c → s.tables.junction.permission = .none →
        exec (.selectPlan p n) s = .next (s.answered p .selectPlan .notPermitted [[]])) ∧
      ((p = .c → s.tables.junction.permission ≠ .none) →
        (¬authority → exec (.selectPlan p n) s = .next (s.answered p .selectPlan .notAuthority [[]])) ∧
        (authority → 3 < n → exec (.selectPlan p n) s = .next (s.answered p .selectPlan .outOfRange [[]])) ∧
        (authority → ∀ plan : PlanId, n = plan.val → exec (.selectPlan p n) s =
          .next (State.answered { s with mc := { s.mc with pendingPlan := plan } } p .selectPlan .ok [[]]))))

/-- LOCAL_RECLAIM in CENTRAL, and TAKE_CONTROL with a permission in LOCAL and STANDBY, move authority: the demand and
the return target become absent, the target is held, the groups stay as they are, the port that takes over is
refreshed, and the standby cycle stops. In the mode that the port already holds, the one effect is the refresh;
elsewhere WRONG_MODE; and TAKE_CONTROL with permission NONE is NOT_PERMITTED (R52, R115, R116, R118). -/
def Obligations.TakingAuthorityHoldsTarget : Prop :=
  ∀ (p : Port) (s : State), s.Undisturbed →
    (s.Takes p .localReclaim →
      (s.mc.mode = .centralMode → ∃ t, exec (.localReclaim p) s = .next t ∧
        t.Responds p .localReclaim .ok ∧ t.mc.mode = .localMode ∧ t.arb.demand = none ∧ t.arb.returnTarget = none ∧
        t.arb.target = s.arb.target ∧ t.groups = s.groups ∧ t.mc.localAlive = true ∧
        t.mc.localTimer = some (us s.tables.junction.localTime)) ∧
      (s.mc.mode = .localMode → exec (.localReclaim p) s =
        .next (State.answered
          { s with mc := { s.mc with localTimer := some (us s.tables.junction.localTime), localAlive := true } } p
          .localReclaim .ok [[]])) ∧
      (s.mc.mode ≠ .centralMode → s.mc.mode ≠ .localMode →
        exec (.localReclaim p) s = .next (s.answered p .localReclaim .wrongMode [[]]))) ∧
    (s.Takes p .takeControl →
      (s.tables.junction.permission = .none →
        exec (.takeControl p) s = .next (s.answered p .takeControl .notPermitted [[]])) ∧
      (s.tables.junction.permission ≠ .none →
        ((s.mc.mode = .localMode ∨ s.mc.mode = .standby) →
          ∃ t, exec (.takeControl p) s = .next t ∧ t.Responds p .takeControl .ok ∧ t.mc.mode = .centralMode ∧
            t.arb.demand = none ∧ t.arb.returnTarget = none ∧ t.arb.target = s.arb.target ∧ t.groups = s.groups ∧
            t.mc.centralAlive = true ∧ t.mc.centralTimer = some (us s.tables.junction.centralPeriod) ∧
            (s.mc.mode = .standby → t.sb = Standby.reset)) ∧
        (s.mc.mode = .centralMode → exec (.takeControl p) s =
          .next (State.answered
            { s with mc := { s.mc with centralTimer := some (us s.tables.junction.centralPeriod), centralAlive := true } } p
            .takeControl .ok [[]])) ∧
        (s.mc.mode ≠ .localMode → s.mc.mode ≠ .standby → s.mc.mode ≠ .centralMode →
          exec (.takeControl p) s = .next (s.answered p .takeControl .wrongMode [[]]))))

/-- RELEASE_CONTROL and LAPSE_CENTRAL in CENTRAL, and LAPSE_LOCAL in LOCAL, give up authority: CENTRAL falls through
to LOCAL with the target held where L is alive; where it is not, and from LOCAL, the mode becomes STANDBY where
standby is enabled, with the standby plan pending, and CLOSING to FLASH where it is not. A lapse posts its event with
the mode as detail and makes its port not alive; in the other modes that is its whole effect, and one that is not due
changes nothing (the model's choice, notes/assumptions/4.md). RELEASE_CONTROL elsewhere is WRONG_MODE, and
NOT_PERMITTED with permission NONE (R114, R115, R117, R120). -/
def Obligations.GivingUpAuthorityFallsThrough : Prop :=
  ∀ (s : State), s.Undisturbed → s.work.isIdle = true →
    let after (t : State) := t.mc.mode =
      (if s.mc.mode = .centralMode ∧ s.mc.localAlive = true then .localMode
        else if s.sequence = [] then .closing else .standby) ∧
      (t.mc.mode = .localMode → t.arb.target = s.arb.target ∧ t.arb.demand = none ∧ t.groups = s.groups) ∧
      (t.mc.mode = .standby → t.mc.pendingPlan = s.tables.junction.standbyPlan) ∧
      (t.mc.mode = .closing → t.mc.closingDest = some .flash ∧ t.arb.target = 0)
    (∀ p, s.Takes p .releaseControl →
      (s.tables.junction.permission = .none →
        exec (.releaseControl p) s = .next (s.answered p .releaseControl .notPermitted [[]])) ∧
      (s.tables.junction.permission ≠ .none → s.mc.mode ≠ .centralMode →
        exec (.releaseControl p) s = .next (s.answered p .releaseControl .wrongMode [[]])) ∧
      (s.tables.junction.permission ≠ .none → s.mc.mode = .centralMode →
        ∃ t, exec (.releaseControl p) s = .next t ∧ t.Responds p .releaseControl .ok ∧ after t ∧
          t.mc.centralAlive = s.mc.centralAlive)) ∧
    (s.mc.centralTimer ≠ some 0 → exec .lapseCentral s = .next s) ∧
    (s.mc.localTimer ≠ some 0 → exec .lapseLocal s = .next s) ∧
    (s.mc.centralTimer = some 0 →
      let u := State.post { s with mc := { s.mc with centralTimer := none, centralAlive := false } } .lapseCentral
        s.mc.mode.code
      (s.mc.mode ≠ .centralMode → exec .lapseCentral s = .next u) ∧
      (s.mc.mode = .centralMode → ∃ t, exec .lapseCentral s = .next t ∧ after t ∧ t.mc.centralAlive = false ∧
        ∀ p, t.portEnabled p = true → (t.ports.get p).flags.getLsbD 4 = true ∧
          (t.ports.get p).details[4] = s.mc.mode.code)) ∧
    (s.mc.localTimer = some 0 →
      let u := State.post { s with mc := { s.mc with localTimer := none, localAlive := false } } .lapseLocal
        s.mc.mode.code
      (s.mc.mode ≠ .localMode → exec .lapseLocal s = .next u) ∧
      (s.mc.mode = .localMode → ∃ t, exec .lapseLocal s = .next t ∧ after t ∧ t.mc.localAlive = false ∧
        ∀ p, t.portEnabled p = true → (t.ports.get p).flags.getLsbD 3 = true ∧
          (t.ports.get p).details[3] = s.mc.mode.code))

/-- STARTUP_RED_EXPIRY releases the start stage, and the first established report then ends STARTUP. The start stage
becomes the mode target and the target, and its groups gain from STOP: a VEHICLE group whose min stop has lapsed
enters PREPARE at once, and a group whose min stop still runs stays in STOP with its start timer running for at least
that long. With start stage 0 STARTUP ends at the expiry itself. Else it ends when the last group of the target enters
GO. It ends in LOCAL where L is alive, with the demand stored from L or the target held; where L is not alive in
STANDBY with the standby plan pending, or with an empty sequence in CLOSING to FLASH. Where the red-out flag of a
red-monitored group is set, the entry to LOCAL or STANDBY at either end posts RED_OUT again and the junction goes on
to CLOSING with destination FLASH. An expiry that is not due changes nothing (the model's choice,
notes/assumptions/4.md) (R12, R35, R43, R44, R46, R52, R57, R103, R104, R108, R120, R175, R176). -/
def Obligations.StartupRedReleasesStage : Prop :=
  ∀ (s : State) (g : GroupId), s.RightOfWay → s.CallsFit → s.work.isIdle = true → s.mc.mode = .startup →
    s.kind g ≠ .unused →
    let start := s.tables.junction.startStage
    let ends (t : State) : Prop :=
      t.mc.released = false ∧
      t.mc.mode = (if s.mc.localAlive = true then .localMode else if s.sequence = [] then .closing else .standby) ∧
      (t.mc.mode = .localMode → t.arb.demand = s.arb.demand) ∧
      (t.mc.mode = .standby → t.mc.pendingPlan = s.tables.junction.standbyPlan) ∧
      (t.mc.mode = .closing → t.mc.closingDest = some .flash ∧ t.arb.target = 0)
    let closes (t : State) : Prop :=
      t.mc.mode = .closing ∧ t.mc.closingDest = some .flash ∧ t.mc.released = false ∧ t.arb.target = 0 ∧
      ((s.mc.localAlive = true ∨ s.sequence ≠ []) →
        ∀ q, t.portEnabled q = true → (t.ports.get q).flags.getLsbD 10 = true)
    (s.mc.startupRed ≠ some 0 → exec .startupRedExpiry s = .next s) ∧
    (s.mc.startupRed = some 0 → start ≠ 0 →
      (∀ c, inSet c (s.stageSet start) = true → s.intergreen c g = none) → inSet g (s.stageSet start) = true →
      (∀ n, (s.grp g).minStopTimer = some (n + 1) →
        ∃ t, exec .startupRedExpiry s = .next t ∧ t.mc.mode = .startup ∧ t.mc.startupRed = none ∧ t.mc.released = true ∧
          t.arb.modeTarget = some start ∧ t.arb.target = start ∧ (t.grp g).state = .stop ∧ (t.grp g).gaining = true ∧
          ∃ m, (t.grp g).startTimer = some m ∧ n + 1 ≤ m) ∧
      ((s.grp g).minStopTimer.getD 0 = 0 → (∀ c, (s.grp c).sinceGo = none) → s.kind g = .vehicle →
        (s.cfg g).prepareTime ≠ 0 →
        ∃ t, exec .startupRedExpiry s = .next t ∧ t.mc.mode = .startup ∧ t.mc.startupRed = none ∧ t.mc.released = true ∧
          t.arb.modeTarget = some start ∧ t.arb.target = start ∧ (t.grp g).state = .prepare ∧
          (t.grp g).stateTimer = some (us (s.cfg g).prepareTime))) ∧
    (s.mc.startupRed = some 0 → start = 0 → s.arb.stable = true →
      (s.lm.redOut = 0 →
        ∃ t, exec .startupRedExpiry s = .next t ∧ ends t ∧
          (t.mc.mode = .localMode → t.arb.target = s.arb.demand.getD 0)) ∧
      ((∃ h, inSet h s.lm.redOut = true) → ∃ t, exec .startupRedExpiry s = .next t ∧ closes t)) ∧
    (s.mc.released = true → s.arb.stable = false → (s.grp g).state = .prepare → (s.grp g).stateTimer = some 0 →
      (∀ h, h ≠ g → if inSet h (s.stageSet s.arb.target) = true then (s.grp h).state = .go
        else (s.grp h).state ≠ .go ∧ (s.grp h).state ≠ .prepare ∧ (s.grp h).state ≠ .clear) →
      inSet g (s.stageSet s.arb.target) = true →
      (s.NoRedOut → ∃ t, exec (.prepareTimerExpiry (g.val + 1)) s = .next t ∧ (t.grp g).state = .go ∧ ends t ∧
        (t.mc.mode = .localMode → t.arb.target = s.arb.demand.getD s.arb.target)) ∧
      (∀ h, h ≠ g → inSet h s.lm.redOut = true →
        ∃ t, exec (.prepareTimerExpiry (g.val + 1)) s = .next t ∧ (t.grp g).state = .go ∧ closes t))

/-- CLOSING_RED_EXPIRY ends CLOSING in its destination, with every used group in DARK, or in FLASH where it is a
VEHICLE group and the destination is FLASH (R20, R109). -/
def Obligations.ClosingRedEndsClosing : Prop :=
  ∀ (s : State) (o : Order), s.RightOfWay → s.CallsFit → s.work.isIdle = true → s.mc.mode = .closing →
    s.mc.closingRed = some 0 → s.mc.closingDest = some o →
      ∃ t, exec .closingRedExpiry s = .next t ∧ t.mc.mode = (if o = .flash then .flash else .dark) ∧
        t.mc.closingDest = none ∧ t.mc.localAlive = false ∧ t.mc.centralAlive = false ∧
        ∀ g, s.kind g ≠ .unused → (t.grp g).state = if o = .flash ∧ s.kind g = .vehicle then .flash else .dark

/-! ## The groups -/

/-- START_TIMER_EXPIRY and PREPARE_TIMER_EXPIRY. A gaining group whose gaining rule holds (no conflicting group in GO
or PREPARE, each one's elapsed since end of GO at least the intergreen less the prepare time, min stop lapsed) steps
out of STOP: into PREPARE for its prepare time where it is a VEHICLE group that has one, else into GO; a group in
PREPARE enters GO. At a start of GO min go and max go come from the active plan, min go starts to run, and the latch
is cleared. Where the rule does not hold the start timer becomes idle and nothing else changes. That min stop has
lapsed where its timer stands at 0 is the model's reading (notes/assumptions/6.md), and that an expiry that is not due
changes nothing is its choice (notes/assumptions/4.md) (R8, R12 to R14, R34, R36, R156). -/
def Obligations.GroupsStepTowardGo : Prop :=
  ∀ (s : State) (g : GroupId), s.PlainRunning →
    let go (t : State) := t.grp g =
        { s.grp g with
          state := .go, stateTimer := none, minStopTimer := none, startTimer := none, minGoInForce := s.planMinGo g,
          maxGoInForce := s.planMaxGo g, minGoLapsed := false, minGoTimer := some (us (s.planMinGo g)), goElapsed := 0,
          gaining := false } ∧ inSet g t.det.latch = false
    let q := if s.kind g = .vehicle then (s.cfg g).prepareTime else 0
    let rule := (∀ c, (s.intergreen c g).isSome = true → (s.grp c).state ≠ .go ∧ (s.grp c).state ≠ .prepare) ∧
      (∀ c i e, s.intergreen c g = some i → (s.grp c).sinceGo = some e → i ≤ wholeDs e + q) ∧
      (s.grp g).minStopTimer.getD 0 = 0
    ((s.grp g).state = .prepare → (s.grp g).stateTimer = some 0 →
      ∃ t, exec (.prepareTimerExpiry (g.val + 1)) s = .next t ∧ go t ∧ s.StaysAround t g) ∧
    ((s.grp g).state = .stop → (s.grp g).gaining = true → (s.grp g).startTimer = some 0 →
      (rule → ∃ t, exec (.startTimerExpiry (g.val + 1)) s = .next t ∧ s.StaysAround t g ∧
        (q = 0 → go t) ∧
        (q ≠ 0 → t.grp g =
          { s.grp g with
            state := .prepare, stateTimer := some (us (s.cfg g).prepareTime), minStopTimer := none, startTimer := none })) ∧
      (¬rule → exec (.startTimerExpiry (g.val + 1)) s =
        .next (s.setGrp g { s.grp g with startTimer := none }))) ∧
    ((s.grp g).startTimer ≠ some 0 → exec (.startTimerExpiry (g.val + 1)) s = .next s) ∧
    ((s.grp g).stateTimer ≠ some 0 → exec (.prepareTimerExpiry (g.val + 1)) s = .next s)

/-- MIN_GO_EXPIRY, HOLD_END_REACHED, CLEAR_TIMER_EXPIRY and MIN_STOP_EXPIRY. Min go lapses, or a hold end is reached
and removed; a group in GO that is terminating with min go lapsed and no hold then begins CLEAR for its clear time,
with its elapsed since end of GO 0, or where its clear time is 0 enters STOP directly, and stays in GO else. A group
whose clear time has run enters STOP, its min stop timer started (idle where min stop is 0), and gains there where it
belongs to the target. There, where no group that it conflicts with gains, its start timer is idle under a conflicting
group in GO or PREPARE, and else counts n whole deciseconds from this event (notes/assumptions/34.md), n being the
largest of its min stop and, for each conflicting group with an elapsed since end of GO, the intergreen less the
prepare time less that value. With min stop 0 it steps on at once where its gaining rule holds. Min stop lapses. An
expiry that is not due changes nothing (the model's choice, notes/assumptions/4.md) (R1, R9, R10, R15 to R18, R35, R36,
R58). -/
def Obligations.GroupsGiveUpGo : Prop :=
  ∀ (s : State) (g : GroupId), s.PlainRunning →
    let clear (t : State) := s.StaysAround t g ∧ t.grp g =
        { s.grp g with
          state := .clear, stateTimer := some (us (s.cfg g).clearTime), sinceGo := some 0, minGoTimer := none,
          minGoLapsed := false, terminating := false, holdEnd := none }
    let minStop := if (s.cfg g).minStop = 0 then none else some (us (s.cfg g).minStop)
    let direct (t : State) := s.StaysAround t g ∧ t.grp g =
        { s.grp g with
          state := .stop, stateTimer := none, sinceGo := some 0, minGoTimer := none, minGoLapsed := false,
          terminating := false, holdEnd := none, minStopTimer := minStop, gaining := false }
    ((s.grp g).minGoTimer = some 0 → (s.grp g).holdEnd = none →
      ((s.grp g).state = .go → (s.grp g).terminating = true → (s.cfg g).clearTime ≠ 0 →
        ∃ t, exec (.minGoExpiry (g.val + 1)) s = .next t ∧ clear t) ∧
      ((s.grp g).state = .go → (s.grp g).terminating = true → (s.cfg g).clearTime = 0 → (s.grp g).pendingOrder = none →
        inSet g (s.stageSet s.arb.target) = false →
        ∃ t, exec (.minGoExpiry (g.val + 1)) s = .next t ∧ direct t) ∧
      ((s.grp g).state ≠ .go ∨ (s.grp g).terminating = false → exec (.minGoExpiry (g.val + 1)) s =
        .next (s.setGrp g { s.grp g with minGoTimer := none, minGoLapsed := true }))) ∧
    (∀ h, (s.grp g).holdEnd = some h → h ≤ s.now →
      ((s.grp g).state = .go → (s.grp g).terminating = true → (s.grp g).minGoLapsed = true → (s.cfg g).clearTime ≠ 0 →
        ∃ t, exec (.holdEndReached (g.val + 1)) s = .next t ∧ clear t) ∧
      ((s.grp g).state = .go → (s.grp g).terminating = true → (s.grp g).minGoLapsed = true → (s.cfg g).clearTime = 0 →
        (s.grp g).pendingOrder = none → inSet g (s.stageSet s.arb.target) = false →
        ∃ t, exec (.holdEndReached (g.val + 1)) s = .next t ∧ direct t) ∧
      ((s.grp g).state ≠ .go ∨ (s.grp g).terminating = false ∨ (s.grp g).minGoLapsed = false →
        exec (.holdEndReached (g.val + 1)) s = .next (s.setGrp g { s.grp g with holdEnd := none }))) ∧
    ((s.grp g).state = .clear → (s.grp g).stateTimer = some 0 → (s.grp g).pendingOrder = none →
      let stopped := { s.grp g with
        state := .stop, stateTimer := none, minStopTimer := minStop }
      (inSet g (s.stageSet s.arb.target) = false →
        ∃ t, exec (.clearTimerExpiry (g.val + 1)) s = .next t ∧ s.StaysAround t g ∧
          t.grp g = { stopped with gaining := false }) ∧
      (inSet g (s.stageSet s.arb.target) = true → (s.cfg g).minStop ≠ 0 →
        ∃ t : State, exec (.clearTimerExpiry (g.val + 1)) s = .next t ∧ s.StaysAround t g ∧
          t.grp g = { stopped with gaining := true, startTimer := (t.grp g).startTimer }) ∧
      (let q := if s.kind g = .vehicle then (s.cfg g).prepareTime else 0
       inSet g (s.stageSet s.arb.target) = true → (s.cfg g).minStop ≠ 0 →
        (∀ c, (s.intergreen g c).isSome = true → (s.grp c).gaining = false) →
        ((∃ c, (s.intergreen c g).isSome = true ∧ ((s.grp c).state = .go ∨ (s.grp c).state = .prepare)) →
          ∃ t : State, exec (.clearTimerExpiry (g.val + 1)) s = .next t ∧ (t.grp g).startTimer = none) ∧
        ((∀ c, (s.intergreen c g).isSome = true → (s.grp c).state ≠ .go ∧ (s.grp c).state ≠ .prepare) →
          ∃ (t : State) (n : Nat), exec (.clearTimerExpiry (g.val + 1)) s = .next t ∧
            (t.grp g).startTimer = some (us n) ∧ (s.cfg g).minStop ≤ n ∧
            (∀ c i e, s.intergreen c g = some i → (s.grp c).sinceGo = some e → i ≤ wholeDs e + q + n) ∧
            (n = (s.cfg g).minStop ∨ ∃ c i e, s.intergreen c g = some i ∧ (s.grp c).sinceGo = some e ∧
              i = wholeDs e + q + n))) ∧
      (let q := if s.kind g = .vehicle then (s.cfg g).prepareTime else 0
       inSet g (s.stageSet s.arb.target) = true → (s.cfg g).minStop = 0 →
        (∀ c, (s.intergreen c g).isSome = true → (s.grp c).state ≠ .go ∧ (s.grp c).state ≠ .prepare) →
        (∀ c i e, s.intergreen c g = some i → (s.grp c).sinceGo = some e → i ≤ wholeDs e + q) →
        (∀ c, (s.intergreen g c).isSome = true → (s.grp c).gaining = false) →
        ∃ t : State, exec (.clearTimerExpiry (g.val + 1)) s = .next t ∧ s.StaysAround t g ∧
          (q = 0 → (t.grp g).state = .go) ∧
          (q ≠ 0 → t.grp g = { stopped with
            state := .prepare, stateTimer := some (us (s.cfg g).prepareTime), startTimer := none, gaining := true }))) ∧
    ((s.grp g).minStopTimer = some 0 →
      exec (.minStopExpiry (g.val + 1)) s = .next (s.setGrp g { s.grp g with minStopTimer := none })) ∧
    ((s.grp g).minGoTimer ≠ some 0 → exec (.minGoExpiry (g.val + 1)) s = .next s) ∧
    ((s.grp g).stateTimer ≠ some 0 → exec (.clearTimerExpiry (g.val + 1)) s = .next s) ∧
    ((s.grp g).minStopTimer ≠ some 0 → exec (.minStopExpiry (g.val + 1)) s = .next s) ∧
    (((s.grp g).holdEnd = none ∨ ∃ h, (s.grp g).holdEnd = some h ∧ s.now < h) →
      exec (.holdEndReached (g.val + 1)) s = .next s)

/-! ## The Standby Unit -/

/-- MAX_GO_REACHED, STEP_GREEN_TIMER_EXPIRY and REST_DELAY_REACHED in an established step of STANDBY that no tram
action suspends. The candidate is the first position after the step index, cyclically onward to it, whose stage holds
a group that has demand and is not in the step stage; the step may end where every group of it that the candidate's
stage leaves out has passed its min go and has no extension, or may no longer be kept for it (in a resumed step when
the step green timer is idle, else when its go-start elapsed has reached its max go in force). The cycle then steps to
the candidate: the step index and stage become its own, the step is no longer established, resumed or at rest, and the
stage is the authority demand; the other blocks take the change, and where nothing overrules the demand and min stop
holds a group of the stage back, that is what stands, with the stage as the target. Where no stage is due, nothing
changes but the step green timer. Where rest is due, the rest stage is handed in the same way and the unit is at rest,
with the step index at the stage's first occurrence in the sequence, or at its end. Where it is not, and at an event
without its cause, nothing changes (the last is the model's choice, notes/assumptions/4.md) (R53, R125 to R129). -/
def Obligations.StandbyStepsAndRests : Prop :=
  ∀ (s : State) (w : StageId), s.mc.mode = .standby → s.sb.established = true → s.sb.suspended = false →
    s.work.isIdle = true → s.sb.stepStage = some w → s.sb.stepIndex ≤ s.sequence.length →
    let stands (st : StageId) (t : State) : Prop :=
      s.arb.modeTarget = none → s.arb.returnTarget = none → s.arb.target ≠ st → s.Undisturbed →
      (∃ h, inSet h (s.stageSet st) = true ∧ (s.grp h).state = .stop ∧ (s.grp h).minStopTimer.getD 0 ≠ 0) →
        t.settle.sb = t.sb ∧ t.settle.arb.target = st ∧ t.settle.arb.demand = some st
    let qualifies (pos : Nat) (st : StageId) : Prop := 1 ≤ pos ∧ s.sequence[pos - 1]? = some st ∧
      ∃ g, inSet g (s.stageSet st) = true ∧ inSet g s.det.demand = true ∧ inSet g (s.stageSet w) = false
    let far (pos : Nat) : Nat := (pos + s.sequence.length - s.sb.stepIndex - 1) % s.sequence.length
    let candidate (pos : Nat) (st : StageId) : Prop := qualifies pos st ∧ ∀ i u, qualifies i u → far pos ≤ far i
    let mayEnd (green : Option Nat) (st : StageId) : Prop :=
      ∀ g, inSet g (s.stageSet w) = true → inSet g (s.stageSet st) = false → (s.grp g).minGoLapsed = true ∧
        (inSet g s.det.extension = false ∨ if s.sb.resumed = true then green = none
          else (s.grp g).maxGoInForce ≤ wholeDs (s.grp g).goElapsed)
    let steps (i : Instr) (green : Option Nat) : Prop := ∀ pos st, candidate pos st → mayEnd green st →
      ∃ t : State, exec i s = .next t.settle ∧ t.sb.stepStage = some st ∧ t.sb.stepIndex = pos ∧
        t.sb.established = false ∧ t.sb.resumed = false ∧ t.sb.atRest = false ∧ t.arb.demand = some st ∧
        (s.sb.resumed = true → t.arb.returnTarget = none) ∧ (green = none → t.sb.stepGreen = none) ∧ stands st t
    (∀ g : GroupId, inSet g (s.stageSet w) = true → (s.grp g).state = .go →
        (s.grp g).maxGoInForce ≤ wholeDs (s.grp g).goElapsed →
      steps (.maxGoReached (g.val + 1)) s.sb.stepGreen ∧
      ((∀ pos st, candidate pos st → ¬mayEnd s.sb.stepGreen st) →
        exec (.maxGoReached (g.val + 1)) s = .next s)) ∧
    (∀ g : GroupId, (s.grp g).state ≠ .go ∨ wholeDs (s.grp g).goElapsed < (s.grp g).maxGoInForce →
      exec (.maxGoReached (g.val + 1)) s = .next s) ∧
    (s.sb.stepGreen = some 0 →
      steps .stepGreenTimerExpiry none ∧
      ((∀ pos st, candidate pos st → ¬mayEnd none st) →
        exec .stepGreenTimerExpiry s = .next { s with sb := { s.sb with stepGreen := none } })) ∧
    (s.sb.stepGreen ≠ some 0 → exec .stepGreenTimerExpiry s = .next s) ∧
    (let rest := s.tables.junction.restStage
     let due : Prop := s.sb.atRest = false ∧ s.plan.restDelay ≠ 0 ∧ s.plan.restDelay ≤ wholeDs s.sb.restElapsed ∧
        (∀ g, inSet g s.det.demand = true → inSet g (s.stageSet w) = true) ∧
        (∀ g, inSet g s.det.extension = true → inSet g (s.stageSet w) = true → inSet g (s.stageSet rest) = true)
     (due → ∃ t : State, exec .restDelayReached s = .next t.settle ∧ t.sb.atRest = true ∧
        t.sb.stepStage = some rest ∧ t.sb.established = false ∧ t.arb.demand = some rest ∧
        (rest ∉ s.sequence → t.sb.stepIndex = s.sequence.length) ∧
        (∀ n, s.sequence[n]? = some rest → (∀ m, m < n → s.sequence[m]? ≠ some rest) → t.sb.stepIndex = n + 1) ∧
        stands rest t) ∧
     (¬due → exec .restDelayReached s = .next s))

/-! ## The Priority Unit -/

/-- CALL_CHECKIN from port T for a TRAM group in LOCAL, CENTRAL or STANDBY. A tram without a call gets one: group,
class, travel time capped at 1,200, elapsed 0, the next arrival stamp, the calls being numbered anew from 0 where the
counter stands at 65,535; with 8 calls in the list the lowest-ranked call that neither acts nor is SUSPENDED gives way
to a call of a higher class, with CALL_EVICTED, and else the answer is LIST_FULL. A tram with a call at the same group
is updated, its stamp kept; at another group it is IN_USE. In STANDBY it is an activity event (R67 to R70, R128). -/
def Obligations.CheckinPlacesCall : Prop :=
  ∀ (p : Port) (w : Checkin) (g : GroupId) (s : State), s.Takes p .callCheckin → s.mc.mode.isSignal = true →
    s.CallsRanked → s.NoRedOut → w.group = g.val + 1 → s.kind g = .tram → 1 ≤ w.tram → w.tram ≤ 65534 → 1 ≤ w.cls →
    w.cls ≤ 3 →
      let next (calls : Nat) := if s.pu.arrivals = 65535 then calls else s.pu.arrivals
      let placed (t : State) (stamp : Nat) := t.Responds p .callCheckin .ok ∧ (s.mc.mode = .standby → t.sb.restElapsed = 0) ∧
        ∃ c ∈ t.pu.calls, c.tram = w.tram ∧ c.group = g ∧ c.cls = w.cls ∧ c.travel = min w.travel 1200 ∧ c.elapsed = 0 ∧
          c.stamp = stamp
      (s.call? w.tram = none → s.pu.calls.length < 8 →
        ∃ t, exec (.callCheckin p w) s = .next t ∧ placed t (next s.pu.calls.length) ∧
          t.pu.arrivals = next s.pu.calls.length + 1 ∧ t.pu.calls.length = s.pu.calls.length + 1) ∧
      (∀ v, s.call? w.tram = none → 8 ≤ s.pu.calls.length → s.evictable? = some v → w.cls < v.cls →
        ∃ t, exec (.callCheckin p w) s = .next t ∧ placed t (next (s.pu.calls.length - 1)) ∧
          t.call? v.tram = none ∧ t.pu.calls.length = s.pu.calls.length ∧
          ∀ q, t.portEnabled q = true → (t.ports.get q).flags.getLsbD 12 = true ∧ (t.ports.get q).details[12] = v.tram) ∧
      (s.call? w.tram = none → 8 ≤ s.pu.calls.length → (∀ v, s.evictable? = some v → v.cls ≤ w.cls) →
        exec (.callCheckin p w) s = .next (s.answered p .callCheckin .listFull [[]])) ∧
      (∀ c, s.call? w.tram = some c → c.group = g →
        ∃ t, exec (.callCheckin p w) s = .next t ∧ placed t c.stamp ∧ t.pu.arrivals = s.pu.arrivals ∧
          t.pu.calls.length = s.pu.calls.length) ∧
      (∀ c, s.call? w.tram = some c → c.group ≠ g →
        exec (.callCheckin p w) s = .next (s.answered p .callCheckin .inUse [[]]))

/-- CALL_CHECKIN refused: a group outside 1 to 24 or not TRAM, a tram id 0 or above 65,534 or a class outside 1 to 3
with OUT_OF_RANGE, then a mode that is not LOCAL, CENTRAL or STANDBY with WRONG_MODE; nothing else changes.
CALL_CHECKOUT and CALL_CANCEL of a tram without a call are refused with NO_SUCH_CALL; of a tram with a call they
remove it, and no other tram's. CALL_TIMEOUT removes a call whose elapsed exceeds its travel time and the call
timeout, with CALL_EXPIRED, and does nothing before (the model's choice, notes/assumptions/4.md) (R68, R71 to R73). -/
def Obligations.CallsLeaveTheList : Prop :=
  ∀ (p : Port) (w : Checkin) (tram : Nat) (s : State),
    (s.Takes p .callCheckin →
      (¬(1 ≤ w.group ∧ w.group ≤ 24) ∨ (∃ g : GroupId, w.group = g.val + 1 ∧ s.kind g ≠ .tram) ∨ w.tram = 0 ∨
          65534 < w.tram ∨ w.cls = 0 ∨ 3 < w.cls →
        exec (.callCheckin p w) s = .next (s.answered p .callCheckin .outOfRange [[]])) ∧
      (∀ g : GroupId, w.group = g.val + 1 → s.kind g = .tram → 1 ≤ w.tram → w.tram ≤ 65534 → 1 ≤ w.cls → w.cls ≤ 3 →
        s.mc.mode.isSignal = false →
          exec (.callCheckin p w) s = .next (s.answered p .callCheckin .wrongMode [[]]))) ∧
    (∀ i k, (i = .callCheckout p tram ∧ k = .callCheckout) ∨ (i = .callCancel p tram ∧ k = .callCancel) →
      s.Takes p k →
      (s.call? tram = none → exec i s = .next (s.answered p k .noSuchCall [[]])) ∧
      (∀ c, s.call? tram = some c → s.mc.mode.isSignal = true → s.NoRedOut →
        ∃ t, exec i s = .next t ∧ t.Responds p k .ok ∧ t.call? tram = none ∧
          ∀ n, n ≠ tram → (t.call? n).isSome = (s.call? n).isSome)) ∧
    (∀ c, s.call? tram = some c → s.work.isIdle = true →
      (c.travel + max s.plan.callTimeout 100 < wholeDs c.elapsed → s.mc.mode.isSignal = true → s.NoRedOut →
        ∃ t, exec (.callTimeout tram) s = .next t ∧ t.call? tram = none ∧
          (∀ n, n ≠ tram → (t.call? n).isSome = (s.call? n).isSome) ∧
          ∀ q, t.portEnabled q = true → (t.ports.get q).flags.getLsbD 11 = true ∧ (t.ports.get q).details[11] = tram) ∧
      (wholeDs c.elapsed ≤ c.travel + max s.plan.callTimeout 100 → exec (.callTimeout tram) s = .next s))

/-- ACTION_TIMER_EXPIRY and RECOVERY_EXPIRY are evaluation events. Under a master, a single waiting or blocked call
whose group is out of GO and out of the target, and whose slack is not above 0, is then due and starts an EARLY
action: the target held and the authority demand are pushed as a return record, its priority stage becomes the
priority request and the target; its service end lies min(T + p, maxExt) on where its group starts GO at that moment,
and is absent else. While recovery runs the call is BLOCKED instead. A due call with an acting call behind it
pre-empts that call: the record names the call and its action, the call is SUSPENDED without service end or extension
limit, the hold end of one in EXTEND is removed, and recovery does not start. Where the stack holds 4 records, the
bottom one is discarded first, with STACK_OVERFLOW and the tram id it names, or 0, and a call that it names (by its
tram id alone: the model's choice, notes/assumptions/32.md) leaves SUSPENDED and does not act. With no call a recovery expiry only makes the timer idle (R75 to R81, R87, R88, R90). -/
def Obligations.DueCallStartsEarly : Prop :=
  ∀ (s : State) (c : Call), (s.mc.mode = .localMode ∨ s.mc.mode = .centralMode) → s.work.isIdle = true → s.NoRedOut →
    s.arb.modeTarget = none →
    let early (t : State) : Call := { c with
      state := .early, actionTimer := none, extensionLimit := none
      serviceEnd := if (t.grp c.group).state = .go
        then some (s.now + us (min (c.travel - wholeDs c.elapsed + max t.plan.passage 10) t.plan.maxExt)) else none }
    let due : Prop := (c.state = .waiting ∨ c.state = .blocked) ∧ s.slack c ≤ 0 ∧ (s.grp c.group).state ≠ .go ∧
      inSet c.group (s.stageSet s.arb.target) = false ∧ s.priorityStage c.group ≠ s.arb.target ∧
      ∀ n : Fin 4, s.tables.plans[n].maxExt ≠ 0
    let taken (t : State) : Prop := t.arb.priorityRequest = some (s.priorityStage c.group) ∧
      t.arb.target = s.priorityStage c.group ∧ t.arb.demand = s.arb.demand ∧ t.pu.recovery = none
    let suspended (v : Call) : Call :=
      { v with state := .suspended, actionTimer := none, extensionLimit := none, serviceEnd := none }
    let record (v : Call) : ReturnRecord := ⟨s.arb.target, s.arb.demand, none, some v.tram,
      some (if v.state = .early then .early else .extend), false⟩
    (s.pu.calls = [] → s.pu.recovery = some 0 → exec .recoveryExpiry s =
      .next { s with pu := { s.pu with recovery := none } }) ∧
    (s.pu.calls = [c] → s.pu.stack = [] → due →
      (∀ i, (i = .actionTimerExpiry c.tram ∧ c.actionTimer = some 0 ∧ s.pu.recovery = none) ∨
          (i = .recoveryExpiry ∧ s.pu.recovery = some 0) →
        ∃ t, exec i s = .next t ∧ taken t ∧
          t.pu.stack = [⟨s.arb.target, s.arb.demand, none, none, none, false⟩] ∧ t.pu.calls = [early t]) ∧
      (∀ n, c.actionTimer = some 0 → s.pu.recovery = some n →
        exec (.actionTimerExpiry c.tram) s = .next { s with
          pu := { s.pu with
            calls := [{ c with state := .blocked, actionTimer := none, extensionLimit := none, serviceEnd := none }] } })) ∧
    (∀ v : Call, c.tram ≠ v.tram → v.acting = true → due → c.actionTimer = some 0 → s.pu.recovery = none →
      (s.pu.calls = [c, v] → s.pu.stack.length < 4 →
        ∃ t, exec (.actionTimerExpiry c.tram) s = .next t ∧ taken t ∧ t.pu.resumedMark = false ∧
          t.pu.stack = record v :: s.pu.stack ∧ t.pu.calls = [early t, suspended v] ∧
          (v.state = .extend → (t.grp v.group).holdEnd = none)) ∧
      (∀ (front : List ReturnRecord) (bottom : ReturnRecord), s.pu.stack = front ++ [bottom] → front.length = 3 →
        let overflows (t : State) : Prop := t.pu.stack = record v :: front ∧ t.pu.resumedMark = false ∧
          ∀ q, t.portEnabled q = true → (t.ports.get q).flags.getLsbD 15 = true ∧
            (t.ports.get q).details[15] = bottom.call.getD 0
        (s.pu.calls = [c, v] →
          ∃ t, exec (.actionTimerExpiry c.tram) s = .next t ∧ taken t ∧ overflows t ∧
            t.pu.calls = [early t, suspended v]) ∧
        (∀ u : Call, s.pu.calls = [c, v, u] → u.tram ≠ c.tram → u.tram ≠ v.tram → u.state = .suspended →
          bottom.call = some u.tram →
          ∃ t d, exec (.actionTimerExpiry c.tram) s = .next t ∧ taken t ∧ overflows t ∧
            t.pu.calls = [early t, suspended v, d] ∧ d.tram = u.tram ∧ d.acting = false ∧ d.state ≠ .suspended)))

/-- SERVICE_END_REACHED ends the EARLY action of a call under a master, and HOLD_END_REACHED the EXTEND action of one,
with the green served flag of its group set, as the action has set it (R81, R84, R94): the call stays in the list, no longer
acting, and the recovery timer starts with the active plan's recovery time, unless the action was a resumed one, which
leaves it as it is (stated with maxExt above 0, so that no further action starts and ends at the same moment). At the end of an EARLY action the record at the top of
the stack is popped. A fresh one that names no call gives its stage as the return target and the target. A fresh one
that names a call suspended in EARLY resumes that call: it acts again, its priority stage is the priority request and
the target, and its service end is absent until its group starts GO; where its group is in GO, the service end lies T +
p on, or maxExt after the moment that lies the group's go-start elapsed, in whole deciseconds, before now (R94;
notes/assumptions/29.md) where that is earlier, and one that is not later than now ends the action too. A stale one
gives nothing: the target follows the authority demand, and a call that it names is released from SUSPENDED, as is one
that was suspended in EXTEND; it does not act, unless its group is in GO and not yet served in it, so that a
termination can be permitted that extends it. In STANDBY, where a fresh record that names no call brings back a stage
that does not yet stand, the same end also ends the suspension: a standby remaining that the record carries makes the
step a resumed one with that green, and without one both stay as they were; the other blocks then take the change. A
service end not reached changes nothing (the model's choice, notes/assumptions/4.md) (R81, R82, R86, R87, R91 to R94,
R132). -/
def Obligations.ActionEndReturns : Prop :=
  (∀ (s : State) (c : Call) (r : ReturnRecord) (h : GroupId), s.mc.mode = .standby → s.sb.suspended = true →
    s.work.isIdle = true → s.arb.modeTarget = none → s.plan.recovery ≠ 0 → s.pu.calls = [c] → s.pu.resumedMark = false →
    c.state = .early → (∃ n, c.serviceEnd = some n ∧ n ≤ s.now) → s.pu.stack = [r] → r.call = none → r.stale = false →
    r.demand = s.arb.demand → r.resume ≠ s.arb.target → inSet h (s.stageSet r.resume) = true → (s.grp h).state ≠ .go →
      ∃ t : State, exec (.serviceEndReached c.tram) s = .next t.settle ∧ t.arb.returnTarget = some r.resume ∧
        t.arb.target = r.resume ∧ t.arb.priorityRequest = none ∧ t.pu.stack = [] ∧
        t.pu.recovery = some (us s.plan.recovery) ∧ (∀ d ∈ t.pu.calls, d.acting = false) ∧
        t.sb = { s.sb with
          suspended := false
          resumed := if r.standbyRemaining = none then s.sb.resumed else true
          resumeGreen := if r.standbyRemaining = none then s.sb.resumeGreen else r.standbyRemaining }) ∧
  ∀ (s : State) (c : Call), (s.mc.mode = .localMode ∨ s.mc.mode = .centralMode) → s.work.isIdle = true → s.NoRedOut →
    s.arb.modeTarget = none → s.plan.recovery ≠ 0 →
    let waits (t : State) : Prop := t.pu.recovery = some (us s.plan.recovery) ∧ t.pu.stack = [] ∧
      ∃ d, t.call? c.tram = some d ∧ d.group = c.group ∧ d.stamp = c.stamp ∧ d.acting = false ∧
        d.serviceEnd = none ∧ d.extensionLimit = none
    let ending : Prop := c.state = .early ∧ inSet c.group s.pu.served = true ∧ ∃ n, c.serviceEnd = some n ∧ n ≤ s.now
    let follows (t : State) : Prop := t.arb.priorityRequest = none ∧
      t.arb.target = (s.arb.returnTarget <|> s.arb.demand).getD s.arb.target
    (∀ r, s.pu.calls = [c] → s.pu.resumedMark = false → ending → s.pu.stack = [r] → r.call = none →
      (r.stale = false → r.demand = s.arb.demand →
        ∃ t, exec (.serviceEndReached c.tram) s = .next t ∧ waits t ∧ t.arb.priorityRequest = none ∧
          t.arb.returnTarget = some r.resume ∧ t.arb.target = r.resume) ∧
      (r.stale = true ∨ r.demand ≠ s.arb.demand →
        ∃ t, exec (.serviceEndReached c.tram) s = .next t ∧ waits t ∧ follows t)) ∧
    (∀ r v, s.pu.calls = [c, v] → c.tram ≠ v.tram → v.state = .suspended → s.pu.resumedMark = false → ending →
      s.pu.stack = [r] → r.call = some v.tram →
      (r.stale = false → r.demand = s.arb.demand → r.suspended = some .early → (s.grp v.group).state ≠ .go →
        (∀ n : Fin 4, s.tables.plans[n].maxExt ≠ 0) →
        ∃ t, exec (.serviceEndReached c.tram) s = .next t ∧ waits t ∧ t.pu.resumedMark = true ∧
          t.arb.priorityRequest = some (s.priorityStage v.group) ∧ t.arb.target = s.priorityStage v.group ∧
          ∃ d, t.call? v.tram = some d ∧ d.state = .early ∧ d.actionTimer = none ∧
            d.serviceEnd = if (t.grp v.group).state = .go
              then some (s.now + us (min (v.travel - wholeDs v.elapsed + max t.plan.passage 10) t.plan.maxExt)) else none) ∧
      (r.stale = false → r.demand = s.arb.demand → r.suspended = some .early → (s.grp v.group).state = .go →
        let e := wholeDs (s.grp v.group).goElapsed
        (e < s.plan.maxExt →
          ∃ t, exec (.serviceEndReached c.tram) s = .next t ∧ waits t ∧ t.pu.resumedMark = true ∧
            t.arb.priorityRequest = some (s.priorityStage v.group) ∧ t.arb.target = s.priorityStage v.group ∧
            ∃ d, t.call? v.tram = some d ∧ d.state = .early ∧ d.actionTimer = none ∧ d.serviceEnd = some (s.now +
              us (min (v.travel - wholeDs v.elapsed + max s.plan.passage 10) (s.plan.maxExt - e)))) ∧
        (s.plan.maxExt ≤ e →
          ∃ t, exec (.serviceEndReached c.tram) s = .next t ∧ waits t ∧ t.pu.resumedMark = false ∧
            t.arb.priorityRequest = none ∧
            t.arb.target = (s.arb.returnTarget <|> s.arb.demand).getD (s.priorityStage v.group) ∧
            ∃ d, t.call? v.tram = some d ∧ d.acting = false ∧ d.serviceEnd = none)) ∧
      (r.stale = true ∨ r.demand ≠ s.arb.demand ∨ r.suspended = some .extend →
        ∃ t, exec (.serviceEndReached c.tram) s = .next t ∧ waits t ∧ follows t ∧
          ∃ d, t.call? v.tram = some d ∧ d.state ≠ .suspended ∧
            ((s.grp v.group).state ≠ .go ∨ inSet v.group s.pu.served = true → d.acting = false))) ∧
    (s.pu.calls = [c] → s.pu.resumedMark = true → ending → s.pu.stack = [] →
      (∀ n : Fin 4, s.tables.plans[n].maxExt ≠ 0) →
      ∃ t, exec (.serviceEndReached c.tram) s = .next t ∧ t.pu.recovery = s.pu.recovery ∧ t.pu.resumedMark = false) ∧
    (∀ n, s.pu.calls = [c] → c.serviceEnd = some n → s.now < n → exec (.serviceEndReached c.tram) s = .next s) ∧
    (∀ h, s.pu.calls = [c] → s.pu.resumedMark = false → c.state = .extend → inSet c.group s.pu.served = true →
      (s.grp c.group).holdEnd = some h → h ≤ s.now → s.pu.stack = [] →
        ∃ t, exec (.holdEndReached (c.group.val + 1)) s = .next t ∧ waits t ∧ (t.grp c.group).holdEnd = none ∧
          t.arb.target = s.arb.target)

/-- The Priority Unit's answer to a TRAM group that may terminate, under a master. With a NATURAL call for the group,
no call acting and no extension given in this GO, an arrival that fits the longest extension is granted: the call
enters EXTEND with its extension limit, and the group stays in GO, held until T + p from now. One that does not fit is
refused with EXT_REFUSED, and the group begins CLEAR; so does a group whose call was served in this GO. A grant with
an acting call behind pre-empts that call: its record is pushed, it is SUSPENDED, and where it was in EARLY the
priority request is withdrawn and the target follows the return target or the demand, where it was in EXTEND its hold
end is removed. Where the stack holds 4 records, the bottom one is discarded first, with STACK_OVERFLOW and the tram
id it names, or 0, and a call that it names (by its tram id alone: the model's choice, notes/assumptions/32.md) leaves
SUSPENDED and does not act (R83, R84, R89, R90). -/
def Obligations.TramHoldsItsGreen : Prop :=
  ∀ (s : State) (c : Call) (g : GroupId), (s.mc.mode = .localMode ∨ s.mc.mode = .centralMode) → s.work.isIdle = true →
    s.NoRedOut → s.arb.modeTarget = none → c.state = .natural → c.group = g → s.kind g = .tram →
    (s.grp g).state = .go → (s.grp g).terminating = true → (s.grp g).minGoTimer = some 0 → (s.grp g).holdEnd = none →
    (s.cfg g).clearTime ≠ 0 →
      let need := c.travel - wholeDs c.elapsed + max s.plan.passage 10
      let granted (t : State) : Prop := (t.grp g).state = .go ∧ (t.grp g).holdEnd = some (s.now + us need) ∧
        (t.grp g).minGoLapsed = true ∧ inSet g t.pu.served = true
      let extended : Call := { c with
        state := .extend, actionTimer := none, serviceEnd := none, extensionLimit := some (s.now + us s.plan.maxExt) }
      (s.pu.calls = [c] → inSet g s.pu.served = false → need ≤ s.plan.maxExt →
        ∃ t, exec (.minGoExpiry (g.val + 1)) s = .next t ∧ granted t ∧ t.arb.target = s.arb.target ∧
          t.pu.stack = s.pu.stack ∧ t.pu.calls = [extended]) ∧
      (∀ v : Call, c.tram ≠ v.tram → v.acting = true → v.group ≠ g → inSet g s.pu.served = false →
        need ≤ s.plan.maxExt →
        let suspended : Call :=
          { v with state := .suspended, actionTimer := none, extensionLimit := none, serviceEnd := none }
        let record : ReturnRecord := ⟨s.arb.target, s.arb.demand, none, some v.tram,
          some (if v.state = .early then .early else .extend), false⟩
        let preempts (t : State) : Prop := granted t ∧
          (v.state = .early → t.arb.priorityRequest = none ∧
            t.arb.target = (s.arb.returnTarget <|> s.arb.demand).getD s.arb.target) ∧
          (v.state = .extend → (t.grp v.group).holdEnd = none ∧ t.arb.target = s.arb.target)
        (s.pu.calls = [c, v] → s.pu.stack.length < 4 →
          ∃ t, exec (.minGoExpiry (g.val + 1)) s = .next t ∧ preempts t ∧ t.pu.stack = record :: s.pu.stack ∧
            t.pu.calls = [extended, suspended]) ∧
        (∀ (front : List ReturnRecord) (bottom : ReturnRecord), s.pu.stack = front ++ [bottom] → front.length = 3 →
          let overflows (t : State) : Prop := t.pu.stack = record :: front ∧
            ∀ q, t.portEnabled q = true → (t.ports.get q).flags.getLsbD 15 = true ∧
              (t.ports.get q).details[15] = bottom.call.getD 0
          (s.pu.calls = [c, v] →
            ∃ t, exec (.minGoExpiry (g.val + 1)) s = .next t ∧ preempts t ∧ overflows t ∧
              t.pu.calls = [extended, suspended]) ∧
          (∀ u : Call, s.pu.calls = [c, v, u] → u.tram ≠ c.tram → u.tram ≠ v.tram → u.state = .suspended →
            bottom.call = some u.tram →
            ∃ t d, exec (.minGoExpiry (g.val + 1)) s = .next t ∧ preempts t ∧ overflows t ∧
              t.pu.calls = [extended, suspended, d] ∧ d.tram = u.tram ∧ d.acting = false ∧ d.state ≠ .suspended))) ∧
      (s.pu.calls = [c] → inSet g s.pu.served = true ∨ s.plan.maxExt < need →
        ∃ t, exec (.minGoExpiry (g.val + 1)) s = .next t ∧ (t.grp g).state = .clear ∧ (t.grp g).sinceGo = some 0 ∧
          inSet g t.pu.served = false ∧
          (inSet g s.pu.served = false → ∀ q, t.portEnabled q = true → (t.ports.get q).flags.getLsbD 14 = true ∧
            (t.ports.get q).details[14] = c.tram))

/-! ## The detectors -/

/-- LOOP_VISIT_COMPLETE at a bank with a visit in flight. P × 12,000 above Nc × 40,000,000, or no oscillation, is
OPEN; P × 150,000 below it is SHORT; a tuned channel's P above twice or below half its baseline is JUMP. The third
fault candidate of one class in a row puts the channel in FAULT with DET_FAULT, and an earlier one only counts. An
in-band P tunes an UNTUNED channel, and the eighth in a row retunes one in FAULT, with DET_CLEAR. At a VACANT channel
a shift of at least the sensitivity is a candidate for OCCUPIED, which the K-th in a row enters; between the
thresholds the run restarts, below the off threshold the baseline moves a sixteenth of the way toward P, and at a
shift of minus the sensitivity or less it takes P; the K-th candidate for VACANT at an OCCUPIED one is entered too,
and one past its presence limit is absorbed into the baseline with PRESENCE_LIMIT. An entry to OCCUPIED counts, and
that of an enabled LOCKING channel sets the latch of each group of its demand set that is neither in GO nor UNUSED;
nothing else sets one. The next visit begins at the next enabled channel; no other channel changes, and a bank without
a visit changes nothing (the model's choice, notes/assumptions/4.md) (R137, R140 to R147, R150, R156, R161). -/
def Obligations.LoopVisitJudgesChannel : Prop :=
  ∀ (s : State) (b : BankId) (v : Visit) (count : Option Nat), s.work.isIdle = true →
    (s.engines[b] = none → exec (.loopVisitComplete b.val count) s = .next s) ∧
    (s.engines[b] = some v →
      let c := s.chans[v.channel]
      let out (f : FaultClass) := (count = none ∧ f = .openLoop) ∨ ∃ P, count = some P ∧
        ((v.nc * 40000000 < P * 12000 ∧ f = .openLoop) ∨ (P * 150000 < v.nc * 40000000 ∧ f = .shortLoop))
      let jump (P : Nat) := (c.state = .vacant ∨ c.state = .occupied) ∧ ∃ B, c.baseline = some B ∧ (2 * B < P ∨ 2 * P < B)
      let inBand (P : Nat) := count = some P ∧ P * 12000 ≤ v.nc * 40000000 ∧ v.nc * 40000000 ≤ P * 150000
      ∃ t, exec (.loopVisitComplete b.val count) s = .next t ∧
        (∀ ch : Fin 32, ch ≠ v.channel → t.chans[ch] = s.chans[ch] ∧ t.det.count[ch] = s.det.count[ch]) ∧
        t.engines[b] = s.nextVisit b (some v.channel) ∧ (∀ b' : Fin 4, b' ≠ b → t.engines[b'] = s.engines[b']) ∧
        t.tables = s.tables ∧ t.det.total = s.det.total ∧
        let d := t.chans[v.channel]
        (t.det.count[v.channel] = if d.state = .occupied ∧ c.state ≠ .occupied
          then min (s.det.count[v.channel] + 1) 65535 else s.det.count[v.channel]) ∧
        (s.mc.mode ≠ .standby → ∀ g, inSet g t.det.latch = true ↔ inSet g s.det.latch = true ∨
          (d.state = .occupied ∧ c.state ≠ .occupied ∧ s.tables.detectors[v.channel].enabled = true ∧
            s.tables.detectors[v.channel].locking = true ∧
            inSet g s.tables.detectors[v.channel].demandSet = true ∧ (s.grp g).state ≠ .go ∧ s.kind g ≠ .unused)) ∧
        (∀ f, (out f ∨ (∃ P, inBand P ∧ jump P ∧ f = .jump)) → c.state ≠ .disabled → c.state ≠ .fault →
          (2 ≤ c.faultsOf f → d = { c with
            state := .fault, fault := some f, faultRun := none, confirm := none, recovery := 0, baseline := none,
            occupied := 0 } ∧
            ∀ q, t.portEnabled q = true → (t.ports.get q).flags.getLsbD 5 = true) ∧
          (c.faultsOf f < 2 → d = { c with faultRun := some (f, c.faultsOf f + 1), confirm := none })) ∧
        (∀ f, out f → c.state = .fault → d = { c with recovery := 0 }) ∧
        (∀ P, inBand P →
          (c.state = .untuned → d = { c with
            state := .vacant, baseline := some P, lastD := 0, confirm := none, faultRun := none }) ∧
          (c.state = .fault → c.recovery < 7 → d = { c with recovery := c.recovery + 1 }) ∧
          (c.state = .fault → c.recovery = 7 → d = { c with
            state := .vacant, baseline := some P, fault := none, recovery := 0, lastD := 0 } ∧
            ∀ q, t.portEnabled q = true → (t.ports.get q).flags.getLsbD 6 = true)) ∧
        (∀ P B, inBand P → ¬jump P → c.baseline = some B →
          let shift := (((B : Int) - P) * 1000000).tdiv B
          (c.state = .vacant → (c.sensitivity : Int) ≤ shift → c.runOf .occupied + 1 < (s.bank b).k →
            d = { c with lastD := shift, faultRun := none, confirm := some (.occupied, c.runOf .occupied + 1) }) ∧
          (c.state = .vacant → (c.sensitivity : Int) ≤ shift → (s.bank b).k ≤ c.runOf .occupied + 1 →
            d = { c with lastD := shift, faultRun := none, state := .occupied, confirm := none, occupied := 0 }) ∧
          (c.state = .vacant → shift < ((c.sensitivity * 3 / 4 : Nat) : Int) → -(c.sensitivity : Int) < shift →
            d = { c with
              lastD := shift, faultRun := none, confirm := none,
              baseline := some ((B : Int) - ((B : Int) - P).tdiv 16).toNat }) ∧
          (c.state = .vacant → ((c.sensitivity * 3 / 4 : Nat) : Int) ≤ shift → shift < c.sensitivity →
            d = { c with lastD := shift, faultRun := none, confirm := none }) ∧
          (c.state = .vacant → shift < ((c.sensitivity * 3 / 4 : Nat) : Int) → shift ≤ -(c.sensitivity : Int) →
            d = { c with lastD := shift, faultRun := none, confirm := none, baseline := some P }) ∧
          (c.state = .occupied → c.presence ≠ 0 → 10 * c.presence ≤ wholeDs c.occupied →
            d = { c with
              state := .vacant, baseline := some P, confirm := none, faultRun := none, occupied := 0, lastD := 0 } ∧
              ∀ q, t.portEnabled q = true → (t.ports.get q).flags.getLsbD 7 = true) ∧
          (c.state = .occupied → (c.presence = 0 ∨ wholeDs c.occupied < 10 * c.presence) →
            (((c.sensitivity * 3 / 4 : Nat) : Int) ≤ shift →
              d = { c with lastD := shift, faultRun := none, confirm := none }) ∧
            (shift < ((c.sensitivity * 3 / 4 : Nat) : Int) → c.runOf .vacant + 1 < (s.bank b).k →
              d = { c with lastD := shift, faultRun := none, confirm := some (.vacant, c.runOf .vacant + 1) }) ∧
            (shift < ((c.sensitivity * 3 / 4 : Nat) : Int) → (s.bank b).k ≤ c.runOf .vacant + 1 →
              d = { c with lastD := shift, faultRun := none, state := .vacant, confirm := none, occupied := 0 }))))

/-- CONTACT_SAMPLE at a contact bank: an input held low is closed. At each enabled channel of the bank a closed input
is a candidate for OCCUPIED and an open one for VACANT, and the K-th in a row changes the state. An OCCUPIED channel
past its presence limit enters FAULT with class STUCK, with DET_FAULT, before its sample is taken, and the K-th open
sample in a row clears a STUCK one, with DET_CLEAR. An entry to OCCUPIED at a LOCKING channel sets the latch of each
group of its demand set that is neither in GO nor UNUSED, and in STANDBY one at a channel with activity participation
makes the rest activity elapsed 0. Channels that are not enabled and other banks' channels do not change, nor does
anything at a LOOP bank (the last is the model's choice, notes/assumptions/4.md) (R128, R146, R149, R150, R156, R163).
-/
def Obligations.ContactSampleJudgesChannels : Prop :=
  ∀ (s : State) (b : BankId) (levels : BitVec 8), s.work.isIdle = true →
    ((s.bank b).mode = .loop → exec (.contactSample b.val levels) s = .next s) ∧
    ((s.bank b).mode = .contact →
      ∃ t, exec (.contactSample b.val levels) s = .next t ∧ t.tables = s.tables ∧ t.engines = s.engines ∧
        t.det.total = s.det.total ∧
        (∀ ch : Fin 32, bankOf ch ≠ b ∨ s.chanEnabled ch = false → t.chans[ch] = s.chans[ch]) ∧
        (s.mc.mode ≠ .standby → ∀ g, inSet g t.det.latch = true ↔ inSet g s.det.latch = true ∨
          ∃ ch : Fin 32, s.chanEnabled ch = true ∧ t.chans[ch].state = .occupied ∧ s.chans[ch].state ≠ .occupied ∧
            s.tables.detectors[ch].locking = true ∧ inSet g s.tables.detectors[ch].demandSet = true ∧
            (s.grp g).state ≠ .go ∧ s.kind g ≠ .unused) ∧
        (s.mc.mode = .standby → (∃ ch : Fin 32, s.chanEnabled ch = true ∧ t.chans[ch].state = .occupied ∧
          s.chans[ch].state ≠ .occupied ∧ s.tables.detectors[ch].activity = true) → t.sb.restElapsed = 0) ∧
        ∀ ch : Fin 32, bankOf ch = b → s.chanEnabled ch = true →
          let c := s.chans[ch]
          let d := t.chans[ch]
          let closed := levels.getLsbD (ch.val % 8) = false
          let k := (s.bank b).k
          let stuck := { c with state := .fault, fault := some .stuck, confirm := none, recovery := 0, occupied := 0 }
          (c.state = .vacant → closed → c.runOf .occupied + 1 < k →
            d = { c with confirm := some (.occupied, c.runOf .occupied + 1) }) ∧
          (c.state = .vacant → closed → k ≤ c.runOf .occupied + 1 →
            d = { c with state := .occupied, confirm := none, occupied := 0 } ∧
            t.det.count[ch] = min (s.det.count[ch] + 1) 65535) ∧
          (c.state = .vacant → ¬closed → d = { c with confirm := none }) ∧
          (c.state = .occupied → c.presence = 0 ∨ wholeDs c.occupied < 10 * c.presence →
            (closed → d = { c with confirm := none }) ∧
            (¬closed → c.runOf .vacant + 1 < k → d = { c with confirm := some (.vacant, c.runOf .vacant + 1) }) ∧
            (¬closed → k ≤ c.runOf .vacant + 1 →
              d = { c with state := .vacant, confirm := none, occupied := 0 })) ∧
          (c.state = .occupied → c.presence ≠ 0 → 10 * c.presence ≤ wholeDs c.occupied →
            (closed → d = stuck) ∧ (¬closed → 1 < k → d = { stuck with recovery := 1 }) ∧
            (¬closed → k ≤ 1 → d = { stuck with state := .vacant, fault := none }) ∧
            ∀ q, t.portEnabled q = true → (t.ports.get q).flags.getLsbD 5 = true) ∧
          (c.state = .fault → closed → d = { c with recovery := 0 }) ∧
          (c.state = .fault → ¬closed → c.recovery + 1 < k → d = { c with recovery := c.recovery + 1 }) ∧
          (c.state = .fault → ¬closed → k ≤ c.recovery + 1 →
            d = { c with state := .vacant, fault := none, recovery := 0 } ∧
            ∀ q, t.portEnabled q = true → (t.ports.get q).flags.getLsbD 6 = true))

/-- STRETCH_TIMER_EXPIRY makes the channel's stretch timer idle and judges demand and extension afresh. A group that
is not UNUSED has an extension exactly while an enabled channel of its extension set is OCCUPIED or stretched, or a
faulty one substitutes; and it has demand exactly while its latch is set, an enabled NON_LOCKING channel of its demand
set is OCCUPIED, or a faulty one substitutes; an expiry that is not due changes nothing (R157 to R160; the last clause
is the model's choice, notes/assumptions/4.md). -/
def Obligations.StretchEndsExtension : Prop :=
  ∀ (s : State) (ch : ChanId), s.work.isIdle = true →
    (s.det.stretch[ch] ≠ some 0 → exec (.stretchTimerExpiry (ch.val + 1)) s = .next s) ∧
    (s.det.stretch[ch] = some 0 →
      ∃ t, exec (.stretchTimerExpiry (ch.val + 1)) s = .next t ∧
        (∀ i : Fin 32, t.det.stretch[i] = if i = ch then none else s.det.stretch[i]) ∧ t.chans = s.chans ∧
        t.tables = s.tables ∧ t.det.count = s.det.count ∧ t.det.total = s.det.total ∧
        (s.mc.mode ≠ .standby → t.det.latch = s.det.latch) ∧
        (∀ g, inSet g t.det.demand = true ↔ s.kind g ≠ .unused ∧ (inSet g t.det.latch = true ∨ ∃ i : Fin 32,
          inSet g s.tables.detectors[i].demandSet = true ∧
          ((s.tables.detectors[i].enabled = true ∧ s.tables.detectors[i].locking = false ∧ s.chans[i].state = .occupied) ∨
            (s.chans[i].state = .fault ∧ s.tables.detectors[i].substitution = true)))) ∧
        ∀ g, inSet g t.det.extension = true ↔ s.kind g ≠ .unused ∧ ∃ i : Fin 32,
          inSet g s.tables.detectors[i].extensionSet = true ∧
          ((s.tables.detectors[i].enabled = true ∧
              (s.chans[i].state = .occupied ∨ (i ≠ ch ∧ s.det.stretch[i].isSome = true))) ∨
            (s.chans[i].state = .fault ∧ s.tables.detectors[i].substitution = true)))

/-! ## The lamp outputs -/

/-- LAMP_SAMPLE. A channel that is lit steadily, and whose last drive change lies 200 ms or more back, is compared with
its sensed level through its polarity: the third match in a row proves it, the third mismatch of one kind in a row
makes it LAMP_OUT or LEAK with LAMP; runs short of three count, and a mismatch of the other kind begins its own run;
other channels are not judged. Where the last STOP-role channel of a red-monitored group in STOP becomes LAMP_OUT, and
each gaining group belongs to the target (kept by StepKeepsRightOfWay), the group's red-out flag is set with RED_OUT,
and LOCAL, CENTRAL and STANDBY go to CLOSING with destination FLASH. A sample in which two conflicting groups show a go
aspect raises the conflict run to at most 2 and is the latest sample; the second in a row posts CONFLICT, and outside
DARK and FAULT_FLASH the mode becomes FAULT_FLASH with every group in FLASH or DARK and the fault line active. That the
report is taken within the sample is the model's choice (notes/assumptions/37.md) (R21, R108, R110, R171 to R173,
R175). -/
def Obligations.LampSampleProves : Prop :=
  ∀ (s : State) (levels : BitVec 72), s.work.isIdle = true →
    let shows (g : GroupId) : Prop := ∃ o : Fin 72, s.tables.outputs[o].source = .groupRole g .go ∧
        levels.getLsbD o.val ≠ s.tables.outputs[o].inverted
    let conflict : Prop := ∃ c g, (s.intergreen c g).isSome = true ∧ c ≠ g ∧ shows c ∧ shows g
    let comparable (o : Fin 72) : Prop :=
      (s.out.lit[o] = .on ∨ s.out.lit[o] = .off) ∧ s.lm.lamps[o].lastChange + 200000 ≤ s.now
    let sensed (o : Fin 72) : Prop := levels.getLsbD o.val ≠ s.tables.outputs[o].inverted
    ((∀ g, (s.cfg g).redMonitored = false) → ¬conflict →
      ∃ t, exec (.lampSample levels) s = .next t ∧ t.lm.conflictRun = 0 ∧ t.lm.latestConflict = false ∧ t.out = s.out ∧
        t.groups = s.groups ∧ t.mc = s.mc ∧ t.tables = s.tables ∧
        ∀ o : Fin 72,
          let l := s.lm.lamps[o]
          let d := t.lm.lamps[o]
          let lampMatches := (s.out.lit[o] = .on) ↔ sensed o
          let kind := if s.out.lit[o] = .on then Mismatch.onNotSensed else Mismatch.offSensed
          (¬comparable o → d = l) ∧
          (comparable o → lampMatches → l.matchRun < 2 → d = { l with matchRun := l.matchRun + 1, mismatch := none }) ∧
          (comparable o → lampMatches → l.matchRun = 2 →
            d = { l with status := .proven, matchRun := 0, mismatch := none }) ∧
          (comparable o → ¬lampMatches → (∀ n, l.mismatch ≠ some (kind, n)) →
            d = { l with matchRun := 0, mismatch := some (kind, 1) }) ∧
          (comparable o → ¬lampMatches → l.mismatch = some (kind, 1) →
            d = { l with matchRun := 0, mismatch := some (kind, 2) }) ∧
          (comparable o → ¬lampMatches → l.mismatch = some (kind, 2) →
            d = { l with
              status := if s.out.lit[o] = .on then .lampOut else .leak, matchRun := 0, mismatch := none } ∧
            (l.status ≠ d.status →
              ∀ q, t.portEnabled q = true → (t.ports.get q).flags.getLsbD 8 = true))) ∧
    (∀ (g : GroupId) (o : Fin 72), s.GainingFits → ¬conflict → (∀ h, h ≠ g → (s.cfg h).redMonitored = false) →
      s.lm.redOut = 0 → (s.cfg g).redMonitored = true → s.kind g ≠ .unused → (s.grp g).state = .stop →
      s.tables.outputs[o].source = .groupRole g .stop → s.out.lit[o] = .on → comparable o → ¬sensed o →
      s.lm.lamps[o].mismatch = some (.onNotSensed, 2) → s.lm.lamps[o].status ≠ .lampOut →
      (∀ q : Fin 72, q ≠ o → s.tables.outputs[q].source = .groupRole g .stop →
        s.lm.lamps[q].status = .lampOut ∧ s.out.lit[q] = .on ∧ ¬sensed q) →
      ∃ t, exec (.lampSample levels) s = .next t ∧ inSet g t.lm.redOut = true ∧
        (∀ q, t.portEnabled q = true → (t.ports.get q).flags.getLsbD 10 = true ∧
          (t.ports.get q).details[10] = g.val + 1) ∧
        t.mc.mode = (if s.mc.mode.isSignal = true then .closing else s.mc.mode) ∧
        (s.mc.mode.isSignal = true → t.mc.closingDest = some .flash ∧ t.arb.target = 0)) ∧
    ((∀ g, (s.cfg g).redMonitored = false) → conflict → s.lm.conflictRun ≠ 1 →
      ∃ t, exec (.lampSample levels) s = .next t ∧ t.lm.latestConflict = true ∧
        t.lm.conflictRun = (if s.lm.conflictRun = 0 then 1 else 2) ∧ t.mc = s.mc ∧ t.groups = s.groups ∧ t.out = s.out) ∧
    ((∀ g, (s.cfg g).redMonitored = false) → conflict → s.lm.conflictRun = 1 →
      ∃ t, exec (.lampSample levels) s = .next t ∧ t.lm.latestConflict = true ∧
        (∀ q, t.portEnabled q = true → (t.ports.get q).flags.getLsbD 9 = true) ∧
        (s.mc.mode = .dark → t.mc = s.mc) ∧
        (s.mc.mode ≠ .dark → t.mc.mode = .faultFlash ∧
          (s.mc.mode ≠ .faultFlash → t.mc.faultLine = true ∧
            ∀ g, s.kind g ≠ .unused → (t.grp g).state = if s.kind g = .vehicle then .flash else .dark)))

/-- FLASHER_PHASE_CHANGE turns the phase, and where phase A begins a written rate takes effect; every channel's level
is loaded for the new phase: lit where its lit value is steady ON, flashing with phase A in phase A, or flashing with
phase B in phase B, inverted by polarity INVERTED; nothing else changes. That the chain is loaded at the turn itself
is the model's choice (notes/assumptions/11.md), and that FLASHER_B has a lit value of its own its reading
(notes/assumptions/9.md) (R167, R168). -/
def Obligations.FlasherTurnsPhase : Prop :=
  ∀ s : State, ∃ t, exec .flasherPhaseChange s = .next t ∧
    t = { s with out := { s.out with phaseA := !s.out.phaseA, rate := t.out.rate, chain := t.out.chain } } ∧
    t.out.rate = (if s.out.phaseA = true then s.out.rate else s.tables.junction.flasherRate) ∧
    ∀ o : Fin 72, (t.out.chain.getLsbD o.val = true) ↔
      ((s.out.lit[o] = .on ∨ (s.out.lit[o] = .flashA ∧ s.out.phaseA = false) ∨
        (s.out.lit[o] = .flashB ∧ s.out.phaseA = true)) ↔ s.tables.outputs[o].inverted = false)

/-! ## The decisecond -/

/-- DECISECOND_ELAPSED_RISE: the first waiting span of time passes over the whole part, or a whole decisecond where none waits
(the spans, in whole microseconds, are the model's choice, notes/assumptions/3.md), and each timer and elapsed value counts it
from its own event. A timer runs down and stays at 0 until its expiry is taken (the model's choice, notes/assumptions/4.md);
an elapsed value that its rule lets rise goes on and stops at 65,535 ds; the occupancy total of an OCCUPIED channel rises by
the whole deciseconds that its present spell completes and stops at 65,535; nothing else changes. Two spans do what their sum
does, so a timer started with n ds runs out after exactly n × 100 ms of spans however they are cut, and a spell shorter than
100 ms adds nothing to a total (R1, R10, R11, R66, R128, R135, R161). -/
def Obligations.DecisecondMovesTimes : Prop :=
  (∀ s : State,
    let span := s.spans.headD 100000
    let down (t : Option Nat) : Option Nat := t.map (· - span)
    let up (t : Nat) : Nat := min (t + span) (65535 * 100000)
    ∃ t, exec .decisecondElapsedRise s = .next t ∧ t.spans = s.spans.tail ∧
    (∀ g, t.grp g =
      { s.grp g with
        stateTimer := down (s.grp g).stateTimer, minGoTimer := down (s.grp g).minGoTimer,
        minStopTimer := down (s.grp g).minStopTimer, startTimer := down (s.grp g).startTimer,
        goElapsed := if (s.grp g).state = .go then up (s.grp g).goElapsed else (s.grp g).goElapsed,
        sinceGo := (s.grp g).sinceGo.map up }) ∧
    t.mc = { s.mc with
      startupRed := down s.mc.startupRed, closingRed := down s.mc.closingRed,
      localTimer := down s.mc.localTimer, centralTimer := down s.mc.centralTimer } ∧
    t.pu = { s.pu with
      recovery := down s.pu.recovery
      calls := s.pu.calls.map fun c => { c with elapsed := up c.elapsed, actionTimer := down c.actionTimer } } ∧
    t.sb = { s.sb with
      stepGreen := down s.sb.stepGreen
      restElapsed := if s.mc.mode = .standby then up s.sb.restElapsed else s.sb.restElapsed } ∧
    (∀ ch : Fin 32, t.chans[ch] =
        { s.chans[ch] with
          occupied := if s.chans[ch].state = .occupied then up s.chans[ch].occupied else s.chans[ch].occupied } ∧
      t.det.stretch[ch] = down s.det.stretch[ch] ∧
      (s.chans[ch].state ≠ .occupied → t.det.total[ch] = s.det.total[ch] ∧ t.det.spell[ch] = s.det.spell[ch]) ∧
      (s.chans[ch].state = .occupied →
        t.det.total[ch] = min (s.det.total[ch] + (s.det.spell[ch] + span) / 100000) 65535 ∧
        t.det.spell[ch] = (s.det.spell[ch] + span) % 100000)) ∧
    t.det.count = s.det.count ∧ t.det.latch = s.det.latch ∧ t.det.demand = s.det.demand ∧
    t.det.extension = s.det.extension ∧ t.now = s.now + span ∧ t.tables = s.tables ∧ t.arb = s.arb ∧ t.out = s.out ∧
    t.lm = s.lm ∧ t.ports = s.ports ∧ t.engines = s.engines ∧ t.straps = s.straps) ∧
  (∀ (s t : State) (a b : Nat) (rest : List Nat), exec .decisecondElapsedRise { s with spans := a :: b :: rest } = .next t →
    exec .decisecondElapsedRise t = exec .decisecondElapsedRise { s with spans := (a + b) :: rest }) ∧
  ∀ n span : Nat, runDown span (startedTimer n) = some 0 ↔ n ≠ 0 ∧ n * 100000 ≤ span

/-! ## What every step keeps -/

/-- The law of the right of way: two conflicting groups are never both in GO, nor one in GO and the other in PREPARE.
Every step keeps it, with what carries it: groups that do not run outside running, the timers and flags of each state,
gaining groups in the target, the mode targets, and a matrix that validation passed (R3, R20, R24, R28, R30, R34, R46,
R57). -/
def Obligations.StepKeepsRightOfWay : Prop := ∀ s t : State, s.RightOfWay → step s = .next t → t.RightOfWay

/-- The law of the intergreens: a group in GO started it at least I(c→g) after the end of GO of every conflicting
group c that has left GO since the last START order, and one in PREPARE will have waited as long. Every step keeps it
together with the right of way (R10, R24, R34). -/
def Obligations.StepKeepsIntergreens : Prop :=
  ∀ s t : State, s.RightOfWay ∧ s.IntergreensBounded ∧ s.IntergreensKept → step s = .next t →
    t.RightOfWay ∧ t.IntergreensBounded ∧ t.IntergreensKept

/-- Min go: a group in GO whose min go has lapsed has been in GO for its min go in force, and until it lapses the min
go timer runs for what is left; every step keeps it, with plans of two-byte min gos (R8, R14, R15). -/
def Obligations.StepKeepsMinGo : Prop :=
  ∀ s t : State, s.MinGoKept ∧ s.PlansFit → step s = .next t → t.MinGoKept ∧ t.PlansFit

/-- The baselines of tuned loop channels stay in band: B × 12,000 ≤ Nc × 40,000,000 ≤ B × 150,000, and no other
channel has a baseline. Every step keeps it, with the fault classes and DISABLED states of the channels and the visits
in flight (R135 to R139, R148). -/
def Obligations.StepKeepsBaselines : Prop :=
  ∀ s t : State, s.ChannelsFit ∧ s.VisitsFit ∧ s.BaselinesInBand → step s = .next t →
    t.ChannelsFit ∧ t.VisitsFit ∧ t.BaselinesInBand

/-- Every lit value is the one that the channel's force or source gives, and every position of the drive chain carries
its channel's level; every step keeps both. That the chain is loaded at each change itself is the model's choice
(notes/assumptions/11.md) (R167, R168). -/
def Obligations.StepKeepsLitValues : Prop :=
  ∀ s t : State, s.LitFollows ∧ s.ChainFollows → step s = .next t → t.LitFollows ∧ t.ChainFollows

/-- Every port's attention line is active exactly when its event set and mask share a flag, a clear flag's detail is
0, and a disabled port C has none; every step keeps it (R180, R193, R194). -/
def Obligations.StepKeepsAttention : Prop := ∀ s t : State, s.LinesFit → step s = .next t → t.LinesFit

/-- The call list: at most 8 calls, in rank order, with distinct tram ids and stamps, of TRAM groups, at most one of
them acting, and none outside LOCAL, CENTRAL and STANDBY; at most 4 return records; in STANDBY the step is suspended
exactly while a call acts. Every step keeps it (R65, R67, R69, R77, R88, R90, R92, R96, R123, R131, R132). -/
def Obligations.StepKeepsCallList : Prop :=
  ∀ s t : State, s.ListsBounded ∧ s.CallsFit ∧ s.CallsRanked ∧ s.OneActing ∧ s.SuspensionFits → step s = .next t →
    t.ListsBounded ∧ t.CallsFit ∧ t.CallsRanked ∧ t.OneActing ∧ t.SuspensionFits

/-- The fields of the modes: the fault line is active exactly in FAULT_FLASH, the closing destination is present
exactly in CLOSING, the red timers run in their own modes, supervision is idle outside running, the standby fields
hold their reset values outside STANDBY, and no output is forced outside DARK. Every step keeps it (R98, R100, R110,
R113, R122, R169). -/
def Obligations.StepKeepsModeFields : Prop :=
  ∀ s t : State, s.FaultLineFits ∧ s.ModeFieldsFit ∧ s.StandbyIdle ∧ s.ForcesFit → step s = .next t →
    t.FaultLineFits ∧ t.ModeFieldsFit ∧ t.StandbyIdle ∧ t.ForcesFit

/-- No elapsed value passes 65,535 ds, no count or total 65,535, and only a VEHICLE group is ever in FLASH or PREPARE;
every step keeps both (R1, R3, R10, R11, R161). -/
def Obligations.StepKeepsCountsAndKinds : Prop :=
  ∀ s t : State, s.CountsBounded ∧ s.KindsFit → step s = .next t → t.CountsBounded ∧ t.KindsFit

/-- Every law that a step keeps holds right after reset (R5, R24, R42, R65, R98, R122, R135, R165, R168, R179). -/
def Obligations.ResetMeetsEveryLaw : Prop :=
  let s := State.reset
  s.RightOfWay ∧ s.IntergreensBounded ∧ s.IntergreensKept ∧ s.MinGoKept ∧ s.PlansFit ∧ s.ChannelsFit ∧ s.VisitsFit ∧
    s.BaselinesInBand ∧ s.LitFollows ∧ s.ChainFollows ∧ s.LinesFit ∧ s.ListsBounded ∧ s.CallsFit ∧ s.CallsRanked ∧
    s.OneActing ∧ s.SuspensionFits ∧ s.FaultLineFits ∧ s.ModeFieldsFit ∧ s.StandbyIdle ∧ s.ForcesFit ∧ s.CountsBounded ∧ s.KindsFit
end

