-- ==== Sys2Proof/Laws/State.lean ====
section
/-! SUPPORT. The small lemmas of the state's updates: for each named update, one lemma for each field of the state that it
leaves as it was, true by unfolding and tagged for simp; what the updated field holds; how times, the start timer and the
clearance need go together (R1, R35, R39); and what handing over a priority request does (R47, R49). -/

namespace Sys2Proof.Machine

/-! ### A group record replaced -/

@[simp] theorem State.setGrp_tables (s : State) (g : GroupId) (r : GroupRun) : (s.setGrp g r).tables = s.tables := rfl
@[simp] theorem State.setGrp_arb (s : State) (g : GroupId) (r : GroupRun) : (s.setGrp g r).arb = s.arb := rfl
@[simp] theorem State.setGrp_mc (s : State) (g : GroupId) (r : GroupRun) : (s.setGrp g r).mc = s.mc := rfl
@[simp] theorem State.setGrp_pu (s : State) (g : GroupId) (r : GroupRun) : (s.setGrp g r).pu = s.pu := rfl
@[simp] theorem State.setGrp_sb (s : State) (g : GroupId) (r : GroupRun) : (s.setGrp g r).sb = s.sb := rfl
@[simp] theorem State.setGrp_chans (s : State) (g : GroupId) (r : GroupRun) : (s.setGrp g r).chans = s.chans := rfl
@[simp] theorem State.setGrp_engines (s : State) (g : GroupId) (r : GroupRun) : (s.setGrp g r).engines = s.engines := rfl
@[simp] theorem State.setGrp_det (s : State) (g : GroupId) (r : GroupRun) : (s.setGrp g r).det = s.det := rfl
@[simp] theorem State.setGrp_out (s : State) (g : GroupId) (r : GroupRun) : (s.setGrp g r).out = s.out := rfl
@[simp] theorem State.setGrp_lm (s : State) (g : GroupId) (r : GroupRun) : (s.setGrp g r).lm = s.lm := rfl
@[simp] theorem State.setGrp_ports (s : State) (g : GroupId) (r : GroupRun) : (s.setGrp g r).ports = s.ports := rfl
@[simp] theorem State.setGrp_straps (s : State) (g : GroupId) (r : GroupRun) : (s.setGrp g r).straps = s.straps := rfl
@[simp] theorem State.setGrp_now (s : State) (g : GroupId) (r : GroupRun) : (s.setGrp g r).now = s.now := rfl
@[simp] theorem State.setGrp_work (s : State) (g : GroupId) (r : GroupRun) : (s.setGrp g r).work = s.work := rfl
@[simp] theorem State.setGrp_pending (s : State) (g : GroupId) (r : GroupRun) : (s.setGrp g r).pending = s.pending := rfl
@[simp] theorem State.setGrp_spans (s : State) (g : GroupId) (r : GroupRun) : (s.setGrp g r).spans = s.spans := rfl

/-! ### A hold end taken away -/

@[simp] theorem State.clearHold_tables (s : State) (g : GroupId) : (s.clearHold g).tables = s.tables := rfl
@[simp] theorem State.clearHold_arb (s : State) (g : GroupId) : (s.clearHold g).arb = s.arb := rfl
@[simp] theorem State.clearHold_mc (s : State) (g : GroupId) : (s.clearHold g).mc = s.mc := rfl
@[simp] theorem State.clearHold_pu (s : State) (g : GroupId) : (s.clearHold g).pu = s.pu := rfl
@[simp] theorem State.clearHold_sb (s : State) (g : GroupId) : (s.clearHold g).sb = s.sb := rfl
@[simp] theorem State.clearHold_chans (s : State) (g : GroupId) : (s.clearHold g).chans = s.chans := rfl
@[simp] theorem State.clearHold_engines (s : State) (g : GroupId) : (s.clearHold g).engines = s.engines := rfl
@[simp] theorem State.clearHold_det (s : State) (g : GroupId) : (s.clearHold g).det = s.det := rfl
@[simp] theorem State.clearHold_out (s : State) (g : GroupId) : (s.clearHold g).out = s.out := rfl
@[simp] theorem State.clearHold_lm (s : State) (g : GroupId) : (s.clearHold g).lm = s.lm := rfl
@[simp] theorem State.clearHold_ports (s : State) (g : GroupId) : (s.clearHold g).ports = s.ports := rfl
@[simp] theorem State.clearHold_straps (s : State) (g : GroupId) : (s.clearHold g).straps = s.straps := rfl
@[simp] theorem State.clearHold_now (s : State) (g : GroupId) : (s.clearHold g).now = s.now := rfl
@[simp] theorem State.clearHold_work (s : State) (g : GroupId) : (s.clearHold g).work = s.work := rfl
@[simp] theorem State.clearHold_pending (s : State) (g : GroupId) : (s.clearHold g).pending = s.pending := rfl
@[simp] theorem State.clearHold_spans (s : State) (g : GroupId) : (s.clearHold g).spans = s.spans := rfl

/-! ### A port record replaced -/

@[simp] theorem State.setPort_tables (s : State) (p : Port) (r : PortRecord) : (s.setPort p r).tables = s.tables := rfl
@[simp] theorem State.setPort_groups (s : State) (p : Port) (r : PortRecord) : (s.setPort p r).groups = s.groups := rfl
@[simp] theorem State.setPort_arb (s : State) (p : Port) (r : PortRecord) : (s.setPort p r).arb = s.arb := rfl
@[simp] theorem State.setPort_mc (s : State) (p : Port) (r : PortRecord) : (s.setPort p r).mc = s.mc := rfl
@[simp] theorem State.setPort_pu (s : State) (p : Port) (r : PortRecord) : (s.setPort p r).pu = s.pu := rfl
@[simp] theorem State.setPort_sb (s : State) (p : Port) (r : PortRecord) : (s.setPort p r).sb = s.sb := rfl
@[simp] theorem State.setPort_chans (s : State) (p : Port) (r : PortRecord) : (s.setPort p r).chans = s.chans := rfl
@[simp] theorem State.setPort_engines (s : State) (p : Port) (r : PortRecord) : (s.setPort p r).engines = s.engines := rfl
@[simp] theorem State.setPort_det (s : State) (p : Port) (r : PortRecord) : (s.setPort p r).det = s.det := rfl
@[simp] theorem State.setPort_out (s : State) (p : Port) (r : PortRecord) : (s.setPort p r).out = s.out := rfl
@[simp] theorem State.setPort_lm (s : State) (p : Port) (r : PortRecord) : (s.setPort p r).lm = s.lm := rfl
@[simp] theorem State.setPort_straps (s : State) (p : Port) (r : PortRecord) : (s.setPort p r).straps = s.straps := rfl
@[simp] theorem State.setPort_now (s : State) (p : Port) (r : PortRecord) : (s.setPort p r).now = s.now := rfl
@[simp] theorem State.setPort_work (s : State) (p : Port) (r : PortRecord) : (s.setPort p r).work = s.work := rfl
@[simp] theorem State.setPort_pending (s : State) (p : Port) (r : PortRecord) : (s.setPort p r).pending = s.pending := rfl
@[simp] theorem State.setPort_spans (s : State) (p : Port) (r : PortRecord) : (s.setPort p r).spans = s.spans := rfl

/-! ### A report made -/

@[simp] theorem State.report_tables (s : State) (r : Report) : (s.report r).tables = s.tables := rfl
@[simp] theorem State.report_groups (s : State) (r : Report) : (s.report r).groups = s.groups := rfl
@[simp] theorem State.report_arb (s : State) (r : Report) : (s.report r).arb = s.arb := rfl
@[simp] theorem State.report_mc (s : State) (r : Report) : (s.report r).mc = s.mc := rfl
@[simp] theorem State.report_pu (s : State) (r : Report) : (s.report r).pu = s.pu := rfl
@[simp] theorem State.report_sb (s : State) (r : Report) : (s.report r).sb = s.sb := rfl
@[simp] theorem State.report_chans (s : State) (r : Report) : (s.report r).chans = s.chans := rfl
@[simp] theorem State.report_engines (s : State) (r : Report) : (s.report r).engines = s.engines := rfl
@[simp] theorem State.report_det (s : State) (r : Report) : (s.report r).det = s.det := rfl
@[simp] theorem State.report_out (s : State) (r : Report) : (s.report r).out = s.out := rfl
@[simp] theorem State.report_lm (s : State) (r : Report) : (s.report r).lm = s.lm := rfl
@[simp] theorem State.report_ports (s : State) (r : Report) : (s.report r).ports = s.ports := rfl
@[simp] theorem State.report_straps (s : State) (r : Report) : (s.report r).straps = s.straps := rfl
@[simp] theorem State.report_now (s : State) (r : Report) : (s.report r).now = s.now := rfl
@[simp] theorem State.report_pending (s : State) (r : Report) : (s.report r).pending = s.pending := rfl
@[simp] theorem State.report_spans (s : State) (r : Report) : (s.report r).spans = s.spans := rfl

/-! ### A move added -/

@[simp] theorem State.move_tables (s : State) (m : Move) : (s.move m).tables = s.tables := rfl
@[simp] theorem State.move_groups (s : State) (m : Move) : (s.move m).groups = s.groups := rfl
@[simp] theorem State.move_arb (s : State) (m : Move) : (s.move m).arb = s.arb := rfl
@[simp] theorem State.move_mc (s : State) (m : Move) : (s.move m).mc = s.mc := rfl
@[simp] theorem State.move_pu (s : State) (m : Move) : (s.move m).pu = s.pu := rfl
@[simp] theorem State.move_sb (s : State) (m : Move) : (s.move m).sb = s.sb := rfl
@[simp] theorem State.move_chans (s : State) (m : Move) : (s.move m).chans = s.chans := rfl
@[simp] theorem State.move_engines (s : State) (m : Move) : (s.move m).engines = s.engines := rfl
@[simp] theorem State.move_det (s : State) (m : Move) : (s.move m).det = s.det := rfl
@[simp] theorem State.move_out (s : State) (m : Move) : (s.move m).out = s.out := rfl
@[simp] theorem State.move_lm (s : State) (m : Move) : (s.move m).lm = s.lm := rfl
@[simp] theorem State.move_ports (s : State) (m : Move) : (s.move m).ports = s.ports := rfl
@[simp] theorem State.move_straps (s : State) (m : Move) : (s.move m).straps = s.straps := rfl
@[simp] theorem State.move_now (s : State) (m : Move) : (s.move m).now = s.now := rfl
@[simp] theorem State.move_pending (s : State) (m : Move) : (s.move m).pending = s.pending := rfl
@[simp] theorem State.move_spans (s : State) (m : Move) : (s.move m).spans = s.spans := rfl

/-! ### Moves added -/

@[simp] theorem State.moveAll_tables (s : State) (ms : List Move) : (s.moveAll ms).tables = s.tables := rfl
@[simp] theorem State.moveAll_groups (s : State) (ms : List Move) : (s.moveAll ms).groups = s.groups := rfl
@[simp] theorem State.moveAll_arb (s : State) (ms : List Move) : (s.moveAll ms).arb = s.arb := rfl
@[simp] theorem State.moveAll_mc (s : State) (ms : List Move) : (s.moveAll ms).mc = s.mc := rfl
@[simp] theorem State.moveAll_pu (s : State) (ms : List Move) : (s.moveAll ms).pu = s.pu := rfl
@[simp] theorem State.moveAll_sb (s : State) (ms : List Move) : (s.moveAll ms).sb = s.sb := rfl
@[simp] theorem State.moveAll_chans (s : State) (ms : List Move) : (s.moveAll ms).chans = s.chans := rfl
@[simp] theorem State.moveAll_engines (s : State) (ms : List Move) : (s.moveAll ms).engines = s.engines := rfl
@[simp] theorem State.moveAll_det (s : State) (ms : List Move) : (s.moveAll ms).det = s.det := rfl
@[simp] theorem State.moveAll_out (s : State) (ms : List Move) : (s.moveAll ms).out = s.out := rfl
@[simp] theorem State.moveAll_lm (s : State) (ms : List Move) : (s.moveAll ms).lm = s.lm := rfl
@[simp] theorem State.moveAll_ports (s : State) (ms : List Move) : (s.moveAll ms).ports = s.ports := rfl
@[simp] theorem State.moveAll_straps (s : State) (ms : List Move) : (s.moveAll ms).straps = s.straps := rfl
@[simp] theorem State.moveAll_now (s : State) (ms : List Move) : (s.moveAll ms).now = s.now := rfl
@[simp] theorem State.moveAll_pending (s : State) (ms : List Move) : (s.moveAll ms).pending = s.pending := rfl
@[simp] theorem State.moveAll_spans (s : State) (ms : List Move) : (s.moveAll ms).spans = s.spans := rfl

/-! ### An evaluation asked for -/

@[simp] theorem State.evaluateCalls_tables (s : State) : (s.evaluateCalls).tables = s.tables := rfl
@[simp] theorem State.evaluateCalls_groups (s : State) : (s.evaluateCalls).groups = s.groups := rfl
@[simp] theorem State.evaluateCalls_arb (s : State) : (s.evaluateCalls).arb = s.arb := rfl
@[simp] theorem State.evaluateCalls_mc (s : State) : (s.evaluateCalls).mc = s.mc := rfl
@[simp] theorem State.evaluateCalls_pu (s : State) : (s.evaluateCalls).pu = s.pu := rfl
@[simp] theorem State.evaluateCalls_sb (s : State) : (s.evaluateCalls).sb = s.sb := rfl
@[simp] theorem State.evaluateCalls_chans (s : State) : (s.evaluateCalls).chans = s.chans := rfl
@[simp] theorem State.evaluateCalls_engines (s : State) : (s.evaluateCalls).engines = s.engines := rfl
@[simp] theorem State.evaluateCalls_det (s : State) : (s.evaluateCalls).det = s.det := rfl
@[simp] theorem State.evaluateCalls_out (s : State) : (s.evaluateCalls).out = s.out := rfl
@[simp] theorem State.evaluateCalls_lm (s : State) : (s.evaluateCalls).lm = s.lm := rfl
@[simp] theorem State.evaluateCalls_ports (s : State) : (s.evaluateCalls).ports = s.ports := rfl
@[simp] theorem State.evaluateCalls_straps (s : State) : (s.evaluateCalls).straps = s.straps := rfl
@[simp] theorem State.evaluateCalls_now (s : State) : (s.evaluateCalls).now = s.now := rfl
@[simp] theorem State.evaluateCalls_pending (s : State) : (s.evaluateCalls).pending = s.pending := rfl
@[simp] theorem State.evaluateCalls_spans (s : State) : (s.evaluateCalls).spans = s.spans := rfl

/-! ### A call changed -/

@[simp] theorem State.updateCall_tables (s : State) (tram : Nat) (f : Call → Call) : (s.updateCall tram f).tables = s.tables := rfl
@[simp] theorem State.updateCall_groups (s : State) (tram : Nat) (f : Call → Call) : (s.updateCall tram f).groups = s.groups := rfl
@[simp] theorem State.updateCall_arb (s : State) (tram : Nat) (f : Call → Call) : (s.updateCall tram f).arb = s.arb := rfl
@[simp] theorem State.updateCall_mc (s : State) (tram : Nat) (f : Call → Call) : (s.updateCall tram f).mc = s.mc := rfl
@[simp] theorem State.updateCall_sb (s : State) (tram : Nat) (f : Call → Call) : (s.updateCall tram f).sb = s.sb := rfl
@[simp] theorem State.updateCall_chans (s : State) (tram : Nat) (f : Call → Call) : (s.updateCall tram f).chans = s.chans := rfl
@[simp] theorem State.updateCall_engines (s : State) (tram : Nat) (f : Call → Call) : (s.updateCall tram f).engines = s.engines := rfl
@[simp] theorem State.updateCall_det (s : State) (tram : Nat) (f : Call → Call) : (s.updateCall tram f).det = s.det := rfl
@[simp] theorem State.updateCall_out (s : State) (tram : Nat) (f : Call → Call) : (s.updateCall tram f).out = s.out := rfl
@[simp] theorem State.updateCall_lm (s : State) (tram : Nat) (f : Call → Call) : (s.updateCall tram f).lm = s.lm := rfl
@[simp] theorem State.updateCall_ports (s : State) (tram : Nat) (f : Call → Call) : (s.updateCall tram f).ports = s.ports := rfl
@[simp] theorem State.updateCall_straps (s : State) (tram : Nat) (f : Call → Call) : (s.updateCall tram f).straps = s.straps := rfl
@[simp] theorem State.updateCall_now (s : State) (tram : Nat) (f : Call → Call) : (s.updateCall tram f).now = s.now := rfl
@[simp] theorem State.updateCall_work (s : State) (tram : Nat) (f : Call → Call) : (s.updateCall tram f).work = s.work := rfl
@[simp] theorem State.updateCall_pending (s : State) (tram : Nat) (f : Call → Call) : (s.updateCall tram f).pending = s.pending := rfl
@[simp] theorem State.updateCall_spans (s : State) (tram : Nat) (f : Call → Call) : (s.updateCall tram f).spans = s.spans := rfl

/-! ### A post -/

@[simp] theorem State.post_tables (s : State) (k : EventKind) (d : Nat) : (s.post k d).tables = s.tables := rfl
@[simp] theorem State.post_groups (s : State) (k : EventKind) (d : Nat) : (s.post k d).groups = s.groups := rfl
@[simp] theorem State.post_arb (s : State) (k : EventKind) (d : Nat) : (s.post k d).arb = s.arb := rfl
@[simp] theorem State.post_mc (s : State) (k : EventKind) (d : Nat) : (s.post k d).mc = s.mc := rfl
@[simp] theorem State.post_pu (s : State) (k : EventKind) (d : Nat) : (s.post k d).pu = s.pu := rfl
@[simp] theorem State.post_sb (s : State) (k : EventKind) (d : Nat) : (s.post k d).sb = s.sb := rfl
@[simp] theorem State.post_chans (s : State) (k : EventKind) (d : Nat) : (s.post k d).chans = s.chans := rfl
@[simp] theorem State.post_engines (s : State) (k : EventKind) (d : Nat) : (s.post k d).engines = s.engines := rfl
@[simp] theorem State.post_det (s : State) (k : EventKind) (d : Nat) : (s.post k d).det = s.det := rfl
@[simp] theorem State.post_out (s : State) (k : EventKind) (d : Nat) : (s.post k d).out = s.out := rfl
@[simp] theorem State.post_lm (s : State) (k : EventKind) (d : Nat) : (s.post k d).lm = s.lm := rfl
@[simp] theorem State.post_straps (s : State) (k : EventKind) (d : Nat) : (s.post k d).straps = s.straps := rfl
@[simp] theorem State.post_now (s : State) (k : EventKind) (d : Nat) : (s.post k d).now = s.now := rfl
@[simp] theorem State.post_work (s : State) (k : EventKind) (d : Nat) : (s.post k d).work = s.work := rfl
@[simp] theorem State.post_pending (s : State) (k : EventKind) (d : Nat) : (s.post k d).pending = s.pending := rfl
@[simp] theorem State.post_spans (s : State) (k : EventKind) (d : Nat) : (s.post k d).spans = s.spans := rfl

/-! ### A slot taken -/

@[simp] theorem State.holdSlot_tables (s : State) (p : Port) : (s.holdSlot p).tables = s.tables := rfl
@[simp] theorem State.holdSlot_groups (s : State) (p : Port) : (s.holdSlot p).groups = s.groups := rfl
@[simp] theorem State.holdSlot_arb (s : State) (p : Port) : (s.holdSlot p).arb = s.arb := rfl
@[simp] theorem State.holdSlot_mc (s : State) (p : Port) : (s.holdSlot p).mc = s.mc := rfl
@[simp] theorem State.holdSlot_pu (s : State) (p : Port) : (s.holdSlot p).pu = s.pu := rfl
@[simp] theorem State.holdSlot_sb (s : State) (p : Port) : (s.holdSlot p).sb = s.sb := rfl
@[simp] theorem State.holdSlot_chans (s : State) (p : Port) : (s.holdSlot p).chans = s.chans := rfl
@[simp] theorem State.holdSlot_engines (s : State) (p : Port) : (s.holdSlot p).engines = s.engines := rfl
@[simp] theorem State.holdSlot_det (s : State) (p : Port) : (s.holdSlot p).det = s.det := rfl
@[simp] theorem State.holdSlot_out (s : State) (p : Port) : (s.holdSlot p).out = s.out := rfl
@[simp] theorem State.holdSlot_lm (s : State) (p : Port) : (s.holdSlot p).lm = s.lm := rfl
@[simp] theorem State.holdSlot_straps (s : State) (p : Port) : (s.holdSlot p).straps = s.straps := rfl
@[simp] theorem State.holdSlot_now (s : State) (p : Port) : (s.holdSlot p).now = s.now := rfl
@[simp] theorem State.holdSlot_work (s : State) (p : Port) : (s.holdSlot p).work = s.work := rfl
@[simp] theorem State.holdSlot_pending (s : State) (p : Port) : (s.holdSlot p).pending = s.pending := rfl
@[simp] theorem State.holdSlot_spans (s : State) (p : Port) : (s.holdSlot p).spans = s.spans := rfl

/-! ### One level of the drive chain loaded -/

@[simp] theorem State.loadChannel_tables (s : State) (o : OutId) : (s.loadChannel o).tables = s.tables := rfl
@[simp] theorem State.loadChannel_groups (s : State) (o : OutId) : (s.loadChannel o).groups = s.groups := rfl
@[simp] theorem State.loadChannel_arb (s : State) (o : OutId) : (s.loadChannel o).arb = s.arb := rfl
@[simp] theorem State.loadChannel_mc (s : State) (o : OutId) : (s.loadChannel o).mc = s.mc := rfl
@[simp] theorem State.loadChannel_pu (s : State) (o : OutId) : (s.loadChannel o).pu = s.pu := rfl
@[simp] theorem State.loadChannel_sb (s : State) (o : OutId) : (s.loadChannel o).sb = s.sb := rfl
@[simp] theorem State.loadChannel_chans (s : State) (o : OutId) : (s.loadChannel o).chans = s.chans := rfl
@[simp] theorem State.loadChannel_engines (s : State) (o : OutId) : (s.loadChannel o).engines = s.engines := rfl
@[simp] theorem State.loadChannel_det (s : State) (o : OutId) : (s.loadChannel o).det = s.det := rfl
@[simp] theorem State.loadChannel_lm (s : State) (o : OutId) : (s.loadChannel o).lm = s.lm := rfl
@[simp] theorem State.loadChannel_ports (s : State) (o : OutId) : (s.loadChannel o).ports = s.ports := rfl
@[simp] theorem State.loadChannel_straps (s : State) (o : OutId) : (s.loadChannel o).straps = s.straps := rfl
@[simp] theorem State.loadChannel_now (s : State) (o : OutId) : (s.loadChannel o).now = s.now := rfl
@[simp] theorem State.loadChannel_work (s : State) (o : OutId) : (s.loadChannel o).work = s.work := rfl
@[simp] theorem State.loadChannel_pending (s : State) (o : OutId) : (s.loadChannel o).pending = s.pending := rfl
@[simp] theorem State.loadChannel_spans (s : State) (o : OutId) : (s.loadChannel o).spans = s.spans := rfl

/-! ### The drive chain loaded -/

@[simp] theorem State.loadChain_tables (s : State) : (s.loadChain).tables = s.tables := rfl
@[simp] theorem State.loadChain_groups (s : State) : (s.loadChain).groups = s.groups := rfl
@[simp] theorem State.loadChain_arb (s : State) : (s.loadChain).arb = s.arb := rfl
@[simp] theorem State.loadChain_mc (s : State) : (s.loadChain).mc = s.mc := rfl
@[simp] theorem State.loadChain_pu (s : State) : (s.loadChain).pu = s.pu := rfl
@[simp] theorem State.loadChain_sb (s : State) : (s.loadChain).sb = s.sb := rfl
@[simp] theorem State.loadChain_chans (s : State) : (s.loadChain).chans = s.chans := rfl
@[simp] theorem State.loadChain_engines (s : State) : (s.loadChain).engines = s.engines := rfl
@[simp] theorem State.loadChain_det (s : State) : (s.loadChain).det = s.det := rfl
@[simp] theorem State.loadChain_lm (s : State) : (s.loadChain).lm = s.lm := rfl
@[simp] theorem State.loadChain_ports (s : State) : (s.loadChain).ports = s.ports := rfl
@[simp] theorem State.loadChain_straps (s : State) : (s.loadChain).straps = s.straps := rfl
@[simp] theorem State.loadChain_now (s : State) : (s.loadChain).now = s.now := rfl
@[simp] theorem State.loadChain_work (s : State) : (s.loadChain).work = s.work := rfl
@[simp] theorem State.loadChain_pending (s : State) : (s.loadChain).pending = s.pending := rfl
@[simp] theorem State.loadChain_spans (s : State) : (s.loadChain).spans = s.spans := rfl

/-! ### Proving runs replaced -/

@[simp] theorem State.setRuns_tables (s : State) (o : OutId) (n : Nat) (r : Option (Mismatch × Nat)) : (s.setRuns o n r).tables = s.tables := rfl
@[simp] theorem State.setRuns_groups (s : State) (o : OutId) (n : Nat) (r : Option (Mismatch × Nat)) : (s.setRuns o n r).groups = s.groups := rfl
@[simp] theorem State.setRuns_arb (s : State) (o : OutId) (n : Nat) (r : Option (Mismatch × Nat)) : (s.setRuns o n r).arb = s.arb := rfl
@[simp] theorem State.setRuns_mc (s : State) (o : OutId) (n : Nat) (r : Option (Mismatch × Nat)) : (s.setRuns o n r).mc = s.mc := rfl
@[simp] theorem State.setRuns_pu (s : State) (o : OutId) (n : Nat) (r : Option (Mismatch × Nat)) : (s.setRuns o n r).pu = s.pu := rfl
@[simp] theorem State.setRuns_sb (s : State) (o : OutId) (n : Nat) (r : Option (Mismatch × Nat)) : (s.setRuns o n r).sb = s.sb := rfl
@[simp] theorem State.setRuns_chans (s : State) (o : OutId) (n : Nat) (r : Option (Mismatch × Nat)) : (s.setRuns o n r).chans = s.chans := rfl
@[simp] theorem State.setRuns_engines (s : State) (o : OutId) (n : Nat) (r : Option (Mismatch × Nat)) : (s.setRuns o n r).engines = s.engines := rfl
@[simp] theorem State.setRuns_det (s : State) (o : OutId) (n : Nat) (r : Option (Mismatch × Nat)) : (s.setRuns o n r).det = s.det := rfl
@[simp] theorem State.setRuns_out (s : State) (o : OutId) (n : Nat) (r : Option (Mismatch × Nat)) : (s.setRuns o n r).out = s.out := rfl
@[simp] theorem State.setRuns_ports (s : State) (o : OutId) (n : Nat) (r : Option (Mismatch × Nat)) : (s.setRuns o n r).ports = s.ports := rfl
@[simp] theorem State.setRuns_straps (s : State) (o : OutId) (n : Nat) (r : Option (Mismatch × Nat)) : (s.setRuns o n r).straps = s.straps := rfl
@[simp] theorem State.setRuns_now (s : State) (o : OutId) (n : Nat) (r : Option (Mismatch × Nat)) : (s.setRuns o n r).now = s.now := rfl
@[simp] theorem State.setRuns_work (s : State) (o : OutId) (n : Nat) (r : Option (Mismatch × Nat)) : (s.setRuns o n r).work = s.work := rfl
@[simp] theorem State.setRuns_pending (s : State) (o : OutId) (n : Nat) (r : Option (Mismatch × Nat)) : (s.setRuns o n r).pending = s.pending := rfl
@[simp] theorem State.setRuns_spans (s : State) (o : OutId) (n : Nat) (r : Option (Mismatch × Nat)) : (s.setRuns o n r).spans = s.spans := rfl

/-! ### A visit started -/

@[simp] theorem State.startVisit_tables (s : State) (b : BankId) (c : Option ChanId) : (s.startVisit b c).tables = s.tables := rfl
@[simp] theorem State.startVisit_groups (s : State) (b : BankId) (c : Option ChanId) : (s.startVisit b c).groups = s.groups := rfl
@[simp] theorem State.startVisit_arb (s : State) (b : BankId) (c : Option ChanId) : (s.startVisit b c).arb = s.arb := rfl
@[simp] theorem State.startVisit_mc (s : State) (b : BankId) (c : Option ChanId) : (s.startVisit b c).mc = s.mc := rfl
@[simp] theorem State.startVisit_pu (s : State) (b : BankId) (c : Option ChanId) : (s.startVisit b c).pu = s.pu := rfl
@[simp] theorem State.startVisit_sb (s : State) (b : BankId) (c : Option ChanId) : (s.startVisit b c).sb = s.sb := rfl
@[simp] theorem State.startVisit_chans (s : State) (b : BankId) (c : Option ChanId) : (s.startVisit b c).chans = s.chans := rfl
@[simp] theorem State.startVisit_det (s : State) (b : BankId) (c : Option ChanId) : (s.startVisit b c).det = s.det := rfl
@[simp] theorem State.startVisit_out (s : State) (b : BankId) (c : Option ChanId) : (s.startVisit b c).out = s.out := rfl
@[simp] theorem State.startVisit_lm (s : State) (b : BankId) (c : Option ChanId) : (s.startVisit b c).lm = s.lm := rfl
@[simp] theorem State.startVisit_ports (s : State) (b : BankId) (c : Option ChanId) : (s.startVisit b c).ports = s.ports := rfl
@[simp] theorem State.startVisit_straps (s : State) (b : BankId) (c : Option ChanId) : (s.startVisit b c).straps = s.straps := rfl
@[simp] theorem State.startVisit_now (s : State) (b : BankId) (c : Option ChanId) : (s.startVisit b c).now = s.now := rfl
@[simp] theorem State.startVisit_work (s : State) (b : BankId) (c : Option ChanId) : (s.startVisit b c).work = s.work := rfl
@[simp] theorem State.startVisit_pending (s : State) (b : BankId) (c : Option ChanId) : (s.startVisit b c).pending = s.pending := rfl
@[simp] theorem State.startVisit_spans (s : State) (b : BankId) (c : Option ChanId) : (s.startVisit b c).spans = s.spans := rfl

/-! ### A conflict row replaced -/

@[simp] theorem State.storeRow_groups (s : State) (c : GroupId) (r : Vector (Option Nat) 24) : (s.storeRow c r).groups = s.groups := rfl
@[simp] theorem State.storeRow_arb (s : State) (c : GroupId) (r : Vector (Option Nat) 24) : (s.storeRow c r).arb = s.arb := rfl
@[simp] theorem State.storeRow_mc (s : State) (c : GroupId) (r : Vector (Option Nat) 24) : (s.storeRow c r).mc = s.mc := rfl
@[simp] theorem State.storeRow_pu (s : State) (c : GroupId) (r : Vector (Option Nat) 24) : (s.storeRow c r).pu = s.pu := rfl
@[simp] theorem State.storeRow_sb (s : State) (c : GroupId) (r : Vector (Option Nat) 24) : (s.storeRow c r).sb = s.sb := rfl
@[simp] theorem State.storeRow_chans (s : State) (c : GroupId) (r : Vector (Option Nat) 24) : (s.storeRow c r).chans = s.chans := rfl
@[simp] theorem State.storeRow_engines (s : State) (c : GroupId) (r : Vector (Option Nat) 24) : (s.storeRow c r).engines = s.engines := rfl
@[simp] theorem State.storeRow_det (s : State) (c : GroupId) (r : Vector (Option Nat) 24) : (s.storeRow c r).det = s.det := rfl
@[simp] theorem State.storeRow_out (s : State) (c : GroupId) (r : Vector (Option Nat) 24) : (s.storeRow c r).out = s.out := rfl
@[simp] theorem State.storeRow_lm (s : State) (c : GroupId) (r : Vector (Option Nat) 24) : (s.storeRow c r).lm = s.lm := rfl
@[simp] theorem State.storeRow_ports (s : State) (c : GroupId) (r : Vector (Option Nat) 24) : (s.storeRow c r).ports = s.ports := rfl
@[simp] theorem State.storeRow_straps (s : State) (c : GroupId) (r : Vector (Option Nat) 24) : (s.storeRow c r).straps = s.straps := rfl
@[simp] theorem State.storeRow_now (s : State) (c : GroupId) (r : Vector (Option Nat) 24) : (s.storeRow c r).now = s.now := rfl
@[simp] theorem State.storeRow_work (s : State) (c : GroupId) (r : Vector (Option Nat) 24) : (s.storeRow c r).work = s.work := rfl
@[simp] theorem State.storeRow_pending (s : State) (c : GroupId) (r : Vector (Option Nat) 24) : (s.storeRow c r).pending = s.pending := rfl
@[simp] theorem State.storeRow_spans (s : State) (c : GroupId) (r : Vector (Option Nat) 24) : (s.storeRow c r).spans = s.spans := rfl

/-! ### A stage replaced -/

@[simp] theorem State.storeStage_groups (s : State) (i : Fin 16) (e : Option GroupSet) : (s.storeStage i e).groups = s.groups := rfl
@[simp] theorem State.storeStage_arb (s : State) (i : Fin 16) (e : Option GroupSet) : (s.storeStage i e).arb = s.arb := rfl
@[simp] theorem State.storeStage_mc (s : State) (i : Fin 16) (e : Option GroupSet) : (s.storeStage i e).mc = s.mc := rfl
@[simp] theorem State.storeStage_pu (s : State) (i : Fin 16) (e : Option GroupSet) : (s.storeStage i e).pu = s.pu := rfl
@[simp] theorem State.storeStage_sb (s : State) (i : Fin 16) (e : Option GroupSet) : (s.storeStage i e).sb = s.sb := rfl
@[simp] theorem State.storeStage_chans (s : State) (i : Fin 16) (e : Option GroupSet) : (s.storeStage i e).chans = s.chans := rfl
@[simp] theorem State.storeStage_engines (s : State) (i : Fin 16) (e : Option GroupSet) : (s.storeStage i e).engines = s.engines := rfl
@[simp] theorem State.storeStage_det (s : State) (i : Fin 16) (e : Option GroupSet) : (s.storeStage i e).det = s.det := rfl
@[simp] theorem State.storeStage_out (s : State) (i : Fin 16) (e : Option GroupSet) : (s.storeStage i e).out = s.out := rfl
@[simp] theorem State.storeStage_lm (s : State) (i : Fin 16) (e : Option GroupSet) : (s.storeStage i e).lm = s.lm := rfl
@[simp] theorem State.storeStage_ports (s : State) (i : Fin 16) (e : Option GroupSet) : (s.storeStage i e).ports = s.ports := rfl
@[simp] theorem State.storeStage_straps (s : State) (i : Fin 16) (e : Option GroupSet) : (s.storeStage i e).straps = s.straps := rfl
@[simp] theorem State.storeStage_now (s : State) (i : Fin 16) (e : Option GroupSet) : (s.storeStage i e).now = s.now := rfl
@[simp] theorem State.storeStage_work (s : State) (i : Fin 16) (e : Option GroupSet) : (s.storeStage i e).work = s.work := rfl
@[simp] theorem State.storeStage_pending (s : State) (i : Fin 16) (e : Option GroupSet) : (s.storeStage i e).pending = s.pending := rfl
@[simp] theorem State.storeStage_spans (s : State) (i : Fin 16) (e : Option GroupSet) : (s.storeStage i e).spans = s.spans := rfl

/-! ### A plan replaced -/

@[simp] theorem State.storePlan_groups (s : State) (n : PlanId) (c : Plan) : (s.storePlan n c).groups = s.groups := rfl
@[simp] theorem State.storePlan_arb (s : State) (n : PlanId) (c : Plan) : (s.storePlan n c).arb = s.arb := rfl
@[simp] theorem State.storePlan_mc (s : State) (n : PlanId) (c : Plan) : (s.storePlan n c).mc = s.mc := rfl
@[simp] theorem State.storePlan_pu (s : State) (n : PlanId) (c : Plan) : (s.storePlan n c).pu = s.pu := rfl
@[simp] theorem State.storePlan_sb (s : State) (n : PlanId) (c : Plan) : (s.storePlan n c).sb = s.sb := rfl
@[simp] theorem State.storePlan_chans (s : State) (n : PlanId) (c : Plan) : (s.storePlan n c).chans = s.chans := rfl
@[simp] theorem State.storePlan_engines (s : State) (n : PlanId) (c : Plan) : (s.storePlan n c).engines = s.engines := rfl
@[simp] theorem State.storePlan_det (s : State) (n : PlanId) (c : Plan) : (s.storePlan n c).det = s.det := rfl
@[simp] theorem State.storePlan_out (s : State) (n : PlanId) (c : Plan) : (s.storePlan n c).out = s.out := rfl
@[simp] theorem State.storePlan_lm (s : State) (n : PlanId) (c : Plan) : (s.storePlan n c).lm = s.lm := rfl
@[simp] theorem State.storePlan_ports (s : State) (n : PlanId) (c : Plan) : (s.storePlan n c).ports = s.ports := rfl
@[simp] theorem State.storePlan_straps (s : State) (n : PlanId) (c : Plan) : (s.storePlan n c).straps = s.straps := rfl
@[simp] theorem State.storePlan_now (s : State) (n : PlanId) (c : Plan) : (s.storePlan n c).now = s.now := rfl
@[simp] theorem State.storePlan_work (s : State) (n : PlanId) (c : Plan) : (s.storePlan n c).work = s.work := rfl
@[simp] theorem State.storePlan_pending (s : State) (n : PlanId) (c : Plan) : (s.storePlan n c).pending = s.pending := rfl
@[simp] theorem State.storePlan_spans (s : State) (n : PlanId) (c : Plan) : (s.storePlan n c).spans = s.spans := rfl

/-! ### The return records made stale -/

@[simp] theorem State.markStale_tables (s : State) : (s.markStale).tables = s.tables := rfl
@[simp] theorem State.markStale_groups (s : State) : (s.markStale).groups = s.groups := rfl
@[simp] theorem State.markStale_arb (s : State) : (s.markStale).arb = s.arb := rfl
@[simp] theorem State.markStale_mc (s : State) : (s.markStale).mc = s.mc := rfl
@[simp] theorem State.markStale_sb (s : State) : (s.markStale).sb = s.sb := rfl
@[simp] theorem State.markStale_chans (s : State) : (s.markStale).chans = s.chans := rfl
@[simp] theorem State.markStale_engines (s : State) : (s.markStale).engines = s.engines := rfl
@[simp] theorem State.markStale_det (s : State) : (s.markStale).det = s.det := rfl
@[simp] theorem State.markStale_out (s : State) : (s.markStale).out = s.out := rfl
@[simp] theorem State.markStale_lm (s : State) : (s.markStale).lm = s.lm := rfl
@[simp] theorem State.markStale_ports (s : State) : (s.markStale).ports = s.ports := rfl
@[simp] theorem State.markStale_straps (s : State) : (s.markStale).straps = s.straps := rfl
@[simp] theorem State.markStale_now (s : State) : (s.markStale).now = s.now := rfl
@[simp] theorem State.markStale_work (s : State) : (s.markStale).work = s.work := rfl
@[simp] theorem State.markStale_pending (s : State) : (s.markStale).pending = s.pending := rfl
@[simp] theorem State.markStale_spans (s : State) : (s.markStale).spans = s.spans := rfl

/-! ### The counts cleared -/

@[simp] theorem State.clearCounts_tables (s : State) : (s.clearCounts).tables = s.tables := rfl
@[simp] theorem State.clearCounts_groups (s : State) : (s.clearCounts).groups = s.groups := rfl
@[simp] theorem State.clearCounts_arb (s : State) : (s.clearCounts).arb = s.arb := rfl
@[simp] theorem State.clearCounts_mc (s : State) : (s.clearCounts).mc = s.mc := rfl
@[simp] theorem State.clearCounts_pu (s : State) : (s.clearCounts).pu = s.pu := rfl
@[simp] theorem State.clearCounts_sb (s : State) : (s.clearCounts).sb = s.sb := rfl
@[simp] theorem State.clearCounts_chans (s : State) : (s.clearCounts).chans = s.chans := rfl
@[simp] theorem State.clearCounts_engines (s : State) : (s.clearCounts).engines = s.engines := rfl
@[simp] theorem State.clearCounts_out (s : State) : (s.clearCounts).out = s.out := rfl
@[simp] theorem State.clearCounts_lm (s : State) : (s.clearCounts).lm = s.lm := rfl
@[simp] theorem State.clearCounts_ports (s : State) : (s.clearCounts).ports = s.ports := rfl
@[simp] theorem State.clearCounts_straps (s : State) : (s.clearCounts).straps = s.straps := rfl
@[simp] theorem State.clearCounts_now (s : State) : (s.clearCounts).now = s.now := rfl
@[simp] theorem State.clearCounts_work (s : State) : (s.clearCounts).work = s.work := rfl
@[simp] theorem State.clearCounts_pending (s : State) : (s.clearCounts).pending = s.pending := rfl
@[simp] theorem State.clearCounts_spans (s : State) : (s.clearCounts).spans = s.spans := rfl

/-! ### The flasher turned -/

@[simp] theorem State.turnFlasher_tables (s : State) : (s.turnFlasher).tables = s.tables := rfl
@[simp] theorem State.turnFlasher_groups (s : State) : (s.turnFlasher).groups = s.groups := rfl
@[simp] theorem State.turnFlasher_arb (s : State) : (s.turnFlasher).arb = s.arb := rfl
@[simp] theorem State.turnFlasher_mc (s : State) : (s.turnFlasher).mc = s.mc := rfl
@[simp] theorem State.turnFlasher_pu (s : State) : (s.turnFlasher).pu = s.pu := rfl
@[simp] theorem State.turnFlasher_sb (s : State) : (s.turnFlasher).sb = s.sb := rfl
@[simp] theorem State.turnFlasher_chans (s : State) : (s.turnFlasher).chans = s.chans := rfl
@[simp] theorem State.turnFlasher_engines (s : State) : (s.turnFlasher).engines = s.engines := rfl
@[simp] theorem State.turnFlasher_det (s : State) : (s.turnFlasher).det = s.det := rfl
@[simp] theorem State.turnFlasher_lm (s : State) : (s.turnFlasher).lm = s.lm := rfl
@[simp] theorem State.turnFlasher_ports (s : State) : (s.turnFlasher).ports = s.ports := rfl
@[simp] theorem State.turnFlasher_straps (s : State) : (s.turnFlasher).straps = s.straps := rfl
@[simp] theorem State.turnFlasher_now (s : State) : (s.turnFlasher).now = s.now := rfl
@[simp] theorem State.turnFlasher_work (s : State) : (s.turnFlasher).work = s.work := rfl
@[simp] theorem State.turnFlasher_pending (s : State) : (s.turnFlasher).pending = s.pending := rfl
@[simp] theorem State.turnFlasher_spans (s : State) : (s.turnFlasher).spans = s.spans := rfl

/-! ### What the updated fields hold -/

@[simp] theorem State.setGrp_groups (s : State) (g : GroupId) (r : GroupRun) :
    (s.setGrp g r).groups = s.groups.set g r := rfl
@[simp] theorem State.clearHold_groups (s : State) (g : GroupId) :
    (s.clearHold g).groups = s.groups.set g { s.grp g with holdEnd := none } := rfl
@[simp] theorem State.setPort_ports (s : State) (p : Port) (r : PortRecord) :
    (s.setPort p r).ports = s.ports.put p r := rfl
@[simp] theorem State.report_work (s : State) (r : Report) :
    (s.report r).work = { s.work with reports := s.work.reports ++ [r] } := rfl
@[simp] theorem State.move_work (s : State) (m : Move) :
    (s.move m).work = { s.work with moves := s.work.moves ++ [m] } := rfl
@[simp] theorem State.moveAll_work (s : State) (ms : List Move) :
    (s.moveAll ms).work = { s.work with moves := s.work.moves ++ ms } := rfl
@[simp] theorem State.evaluateCalls_work (s : State) :
    s.evaluateCalls.work = { s.work with evaluate := true } := rfl
@[simp] theorem State.updateCall_pu (s : State) (tram : Nat) (f : Call → Call) :
    (s.updateCall tram f).pu =
      { s.pu with calls := s.pu.calls.map fun c => if c.tram == tram then f c else c } := rfl
@[simp] theorem State.startVisit_engines (s : State) (b : BankId) (c : Option ChanId) :
    (s.startVisit b c).engines = s.engines.set b (s.nextVisit b c) := rfl

/-! ### Group records -/

/-- A group reads back the record it was given. -/
@[simp] theorem State.grp_setGrp_self (s : State) (g : GroupId) (r : GroupRun) : (s.setGrp g r).grp g = r := by
  simp [State.grp, State.setGrp]

/-- Every other group keeps its record. -/
theorem State.grp_setGrp_of_ne (s : State) {g h : GroupId} (r : GroupRun) (ne : g ≠ h) :
    (s.setGrp g r).grp h = s.grp h := by
  have : g.val ≠ h.val := fun e => ne (Fin.ext e)
  simp [State.grp, State.setGrp, this]

/-- A group record read after one was replaced. -/
theorem State.grp_setGrp (s : State) (g h : GroupId) (r : GroupRun) :
    (s.setGrp g r).grp h = if g = h then r else s.grp h := by
  by_cases e : g = h
  · subst e; simp
  · simp [e, State.grp_setGrp_of_ne s r e]

/-- The groups read alike in states with the same group records. -/
theorem State.grp_congr {s t : State} (h : t.groups = s.groups) (g : GroupId) : t.grp g = s.grp g := by
  simp [State.grp, h]

/-! ### Ports -/

@[simp] theorem Ports.get_put_self (ps : Ports) (p : Port) (r : PortRecord) : (ps.put p r).get p = r := by
  cases p <;> rfl

theorem Ports.get_put_of_ne (ps : Ports) {p q : Port} (r : PortRecord) (ne : p ≠ q) :
    (ps.put p r).get q = ps.get q := by
  cases p <;> cases q <;> first | rfl | exact absurd rfl ne

@[simp] theorem Ports.put_put (ps : Ports) (p : Port) (q r : PortRecord) : (ps.put p q).put p r = ps.put p r := by
  cases p <;> rfl

@[simp] theorem Ports.put_get (ps : Ports) (p : Port) : ps.put p (ps.get p) = ps := by
  cases p <;> rfl

/-- The record of a port after the port records were replaced. -/
@[simp] theorem State.setPort_setPort (s : State) (p : Port) (q r : PortRecord) :
    (s.setPort p q).setPort p r = s.setPort p r := by
  simp [State.setPort]

/-- Whether a port is enabled is the straps' alone. -/
theorem State.portEnabled_congr {s t : State} (h : t.straps = s.straps) (p : Port) :
    t.portEnabled p = s.portEnabled p := by
  cases p <;> simp [State.portEnabled, h]

@[simp] theorem State.portEnabled_setPort (s : State) (p q : Port) (r : PortRecord) :
    (s.setPort p r).portEnabled q = s.portEnabled q := State.portEnabled_congr rfl q

/-! ### Tables read alike -/

theorem State.cfg_congr {s t : State} (h : t.tables = s.tables) (g : GroupId) : t.cfg g = s.cfg g := by
  simp [State.cfg, h]

theorem State.kind_congr {s t : State} (h : t.tables = s.tables) (g : GroupId) : t.kind g = s.kind g := by
  simp [State.kind, State.cfg_congr h]

theorem State.intergreen_congr {s t : State} (h : t.tables = s.tables) (c g : GroupId) :
    t.intergreen c g = s.intergreen c g := by
  simp [State.intergreen, h]

theorem State.conflicts_congr {s t : State} (h : t.tables = s.tables) (c g : GroupId) :
    t.conflicts c g = s.conflicts c g := by
  simp [State.conflicts, State.intergreen_congr h]

theorem State.stageSet_congr {s t : State} (h : t.tables = s.tables) (st : StageId) : t.stageSet st = s.stageSet st := by
  simp [State.stageSet, h]

theorem State.plan_congr {s t : State} (h : t.tables = s.tables) (h' : t.mc.activePlan = s.mc.activePlan) :
    t.plan = s.plan := by
  simp [State.plan, h, h']

/-! ### Times (R1) -/

/-- A time of n whole deciseconds since its event counts n. -/
@[simp] theorem wholeDs_us (n : Nat) : wholeDs (us n) = n := by simp [wholeDs, us, Config.decisecond]

/-- A time of n whole deciseconds that is left counts n. -/
@[simp] theorem dsUp_us (n : Nat) : dsUp (us n) = n := by simp only [dsUp, us, Config.decisecond]; omega

/-- A time that is left counts 0 exactly when it has run out. -/
@[simp] theorem dsUp_eq_zero (t : Nat) : dsUp t = 0 ↔ t = 0 := by simp only [dsUp, Config.decisecond]; omega

/-- An elapsed value has counted n ds exactly when n whole deciseconds have passed since its event. -/
theorem le_wholeDs (n t : Nat) : n ≤ wholeDs t ↔ us n ≤ t := by simp only [wholeDs, us, Config.decisecond]; omega

/-- A timer runs down by two spans as by their sum. -/
theorem runDown_runDown (a b : Nat) (t : Option Nat) : runDown b (runDown a t) = runDown (a + b) t := by
  cases t <;> simp [runDown, Nat.sub_sub]

/-- An elapsed value rises by two spans as by their sum. -/
theorem elapse_elapse (a b t : Nat) : elapse b (elapse a t) = elapse (a + b) t := by simp only [elapse]; omega

/-! ### A span of time -/

@[simp] theorem State.passTime_tables (s : State) (n : Nat) : (s.passTime n).tables = s.tables := rfl
@[simp] theorem State.passTime_arb (s : State) (n : Nat) : (s.passTime n).arb = s.arb := rfl
@[simp] theorem State.passTime_engines (s : State) (n : Nat) : (s.passTime n).engines = s.engines := rfl
@[simp] theorem State.passTime_out (s : State) (n : Nat) : (s.passTime n).out = s.out := rfl
@[simp] theorem State.passTime_lm (s : State) (n : Nat) : (s.passTime n).lm = s.lm := rfl
@[simp] theorem State.passTime_ports (s : State) (n : Nat) : (s.passTime n).ports = s.ports := rfl
@[simp] theorem State.passTime_straps (s : State) (n : Nat) : (s.passTime n).straps = s.straps := rfl
@[simp] theorem State.passTime_pending (s : State) (n : Nat) : (s.passTime n).pending = s.pending := rfl
@[simp] theorem State.passTime_spans (s : State) (n : Nat) : (s.passTime n).spans = s.spans := rfl
@[simp] theorem State.passTime_work (s : State) (n : Nat) : (s.passTime n).work = s.work := rfl
@[simp] theorem State.passTime_now (s : State) (n : Nat) : (s.passTime n).now = s.now + n := rfl
@[simp] theorem State.passTime_grp (s : State) (n : Nat) (g : GroupId) : (s.passTime n).grp g = (s.grp g).later n := by
  simp [State.passTime, State.grp]

/-! ### The start timer and the clearance need (R35, R39) -/

/-- A time left falls by k deciseconds as k whole deciseconds pass (R1). -/
theorem dsUp_sub_us (t k : Nat) : dsUp (t - us k) = dsUp t - k := by
  simp only [dsUp, us, Config.decisecond]; omega

/-- An elapsed value below its stop rises by k deciseconds as k whole deciseconds pass, as far as a bound below that stop can
tell (R1). -/
theorem sub_wholeDs_elapse (n k e : Nat) (fits : n ≤ Config.countMax) : n - wholeDs (elapse (us k) e) = n - wholeDs e - k := by
  simp only [wholeDs, elapse, us, Config.decisecond, Config.countMax] at *; omega

/-- A term of the start timer is 0 exactly where its elapsed value meets the second condition of R34. -/
theorem State.startTerm_eq_zero (s : State) (c g : GroupId) :
    s.startTerm c g = 0 ↔
      ∀ i e, s.intergreen c g = some i → (s.grp c).sinceGo = some e → i ≤ wholeDs e + s.prepareLead g := by
  unfold State.startTerm
  cases hi : s.intergreen c g <;> cases he : (s.grp c).sinceGo <;> simp
  omega

/-- Where no conflicting group is in GO or PREPARE, the value to which the start timer of a TRAM group in STOP is set is its
clearance need (R35, R39). -/
theorem State.startValue_eq_clearanceNeed (s : State) (g : GroupId) (tram : s.kind g = .tram)
    (stop : (s.grp g).state = .stop) (free : s.blocked g = false) : s.startValue g = s.clearanceNeed g := by
  have term : ∀ c, s.startTerm c g = s.needTerm c g := by
    intro c
    have quiet : (s.intergreen c g).isSome = true → (s.grp c).state.active = false := by
      intro h
      have := List.any_eq_false.1 free c (by simp [groupIds])
      simpa [State.conflicts, h] using this
    unfold State.startTerm State.needTerm
    cases hi : s.intergreen c g with
    | none => simp
    | some i =>
      have := quiet (by simp [hi])
      cases hc : (s.grp c).state <;> simp [hc, GroupState.active] at this <;>
        cases (s.grp c).sinceGo <;> simp [State.prepareLead, tram]
  simp [State.startValue, State.clearanceNeed, State.ownNeed, stop, term]

/-- A term of a start timer runs down one decisecond at a time (R35). -/
theorem State.startTerm_passTime (s : State) (k : Nat) (c g : GroupId) (fits : (s.intergreen c g).getD 0 ≤ Config.countMax) :
    (s.passTime (us k)).startTerm c g = s.startTerm c g - k := by
  have tables : (s.passTime (us k)).tables = s.tables := rfl
  have since : ((s.passTime (us k)).grp c).sinceGo = (s.grp c).sinceGo.map (elapse (us k)) := by
    rw [State.passTime_grp]; rfl
  unfold State.startTerm
  simp only [State.intergreen_congr tables, State.prepareLead, State.kind_congr tables, State.cfg_congr tables, since]
  cases hi : s.intergreen c g with
  | none => simp
  | some i =>
    rw [hi] at fits
    cases (s.grp c).sinceGo with
    | none => simp
    | some e => simpa using sub_wholeDs_elapse _ k e (by simp only [Option.getD_some] at fits; omega)

/-- The largest of terms that all run down by n runs down by n. -/
theorem largest_map_sub (l : List Nat) (n : Nat) : largest (l.map (· - n)) = largest l - n := by
  have fold : ∀ (l : List Nat) (a : Nat), (l.map (· - n)).foldl max (a - n) = l.foldl max a - n := by
    intro l
    induction l with
    | nil => intro a; rfl
    | cons b l ih =>
      intro a
      have h : max (a - n) (b - n) = max a b - n := by omega
      simpa [h] using ih (max a b)
  simpa [largest] using fold l 0

/-- The terms of a start timer run down together with it, so the largest stays the largest: after k deciseconds in which no
conflicting group changes, setting the timer anew gives its value less k (R35, R36). -/
theorem State.startValue_passTime (s : State) (k : Nat) (g : GroupId)
    (fits : ∀ c, (s.intergreen c g).getD 0 ≤ Config.countMax) :
    (s.passTime (us k)).startValue g = s.startValue g - k := by
  have own : dsLeft ((s.grp g).later (us k)).minStopTimer = dsLeft (s.grp g).minStopTimer - k := by
    simp only [GroupRun.later, runDown, dsLeft]
    cases (s.grp g).minStopTimer <;> simp [dsUp_sub_us, (dsUp_eq_zero 0).2 rfl]
  have terms : (groupIds.map fun c => (s.passTime (us k)).startTerm c g) =
      (groupIds.map fun c => s.startTerm c g).map (· - k) := by
    simp [State.startTerm_passTime s k _ g (fits _)]
  rw [State.startValue, terms, largest_map_sub, State.passTime_grp, own, State.startValue]
  omega

/-- What setting a start timer anew can do: a group that is not gaining in STOP is left alone; under a conflicting group in GO
or PREPARE the timer is idle; a value of 0 steps the group out at once; else the timer counts its value from this event (R1,
R35, R36). -/
theorem State.setStartTimer_cases (s : State) (g : GroupId) :
    (¬((s.grp g).state = .stop ∧ (s.grp g).gaining = true) ∧ s.setStartTimer g = s) ∨
    (s.blocked g = true ∧ s.setStartTimer g = s.setGrp g { s.grp g with startTimer := none }) ∨
    (s.gainingRule g = true ∧ s.setStartTimer g = s.stepOut g) ∨
    (s.blocked g = false ∧ 0 < s.startValue g ∧
      s.setStartTimer g = s.setGrp g { s.grp g with startTimer := some (us (s.startValue g)) }) := by
  by_cases gaining : (s.grp g).state = .stop ∧ (s.grp g).gaining = true
  · cases blocked : s.blocked g with
    | true => simp [State.setStartTimer, gaining, blocked]
    | false =>
      by_cases zero : s.startValue g = 0
      · simp [State.setStartTimer, State.gainingRule, gaining, blocked, zero]
      · simp [State.setStartTimer, gaining, blocked, zero, Nat.pos_of_ne_zero zero]
  · simp [State.setStartTimer, gaining]

/-! ### Hold ends and priority requests -/

/-- A group without its hold end keeps the rest of its record, and every other group all of it (R16). -/
theorem State.grp_clearHold (s : State) (g h : GroupId) :
    (s.clearHold g).grp h = if g = h then { s.grp g with holdEnd := none } else s.grp h := s.grp_setGrp g h _

/-- Where nothing is left for the groups or the Arbiter to take, a priority request is a recomputation with it at once
(R47, R48). -/
theorem State.handRequest_of_idle {s : State} (idle : s.work.isIdle = true) (p : Option StageId) :
    s.handRequest p = s.requestPriority p := by
  have : (s.work.moves.isEmpty && s.work.requests.isEmpty) = true := by
    simp only [Work.isIdle, Bool.and_eq_true] at idle; simp [idle]
  simp only [State.handRequest, this, if_true]

/-- A priority request is a recomputation with it, or it waits behind the ones that the Arbiter has not taken yet and changes
nothing else (R47, R49). -/
theorem State.handRequest_cases (s : State) (p : Option StageId) :
    (s.work.moves = [] ∧ s.work.requests = [] ∧ s.handRequest p = s.requestPriority p) ∨
      ((s.work.moves ≠ [] ∨ s.work.requests ≠ []) ∧
        s.handRequest p = { s with work := { s.work with requests := s.work.requests ++ [p] } }) := by
  cases hm : s.work.moves <;> cases hr : s.work.requests <;> simp [State.handRequest, hm, hr]

/-- A priority request that leaves the target as it is changes the request alone (R48). -/
theorem State.requestPriority_same {s : State} {p : Option StageId}
    (same : { s.arb with priorityRequest := p }.choice = s.arb.target) :
    s.requestPriority p = { s with arb := { s.arb with priorityRequest := p } } := by
  simp [State.requestPriority, State.recompute, same]

/-! ### Empty sets -/

/-- A stage 0 has no groups (R26). -/
@[simp] theorem State.stageSet_zero (s : State) : s.stageSet 0 = 0 := by
  simp [State.stageSet, Tables.stage]

/-- No group belongs to the empty set. -/
@[simp] theorem inSet_zero (g : GroupId) : inSet g 0 = false := by simp [inSet]

end Sys2Proof.Machine
end

