-- ==== Sys2Proof/Laws/Kept.lean ====
section
/-! SUPPORT. What no block touches while the blocks take one another's reports: the tables, the channels and their visits,
the straps, the time base, the queue, the counts, spells and stretch timers, the flasher, the arrival counter, and every port's
receiver, slot and mask. One lemma for each shared operation, and the settling of a moment as their sum. -/

set_option Elab.async false

namespace Sys2Proof.Machine

/-- Two port records that differ in their events alone. -/
structure PortRecord.SameLink (a b : PortRecord) : Prop where
  rx : b.rx = a.rx := by rfl
  toCome : b.toCome = a.toCome := by rfl
  crc : b.crc = a.crc := by rfl
  body : b.body = a.body := by rfl
  crcLow : b.crcLow = a.crcLow := by rfl
  busy : b.busy = a.busy := by rfl
  sending : b.sending = a.sending := by rfl
  response : b.response = a.response := by rfl
  mask : b.mask = a.mask := by rfl

theorem PortRecord.SameLink.refl (a : PortRecord) : a.SameLink a := {}

theorem PortRecord.SameLink.trans {a b c : PortRecord} (h : a.SameLink b) (k : b.SameLink c) : a.SameLink c :=
  ⟨k.rx.trans h.rx, k.toCome.trans h.toCome, k.crc.trans h.crc, k.body.trans h.body, k.crcLow.trans h.crcLow,
    k.busy.trans h.busy, k.sending.trans h.sending, k.response.trans h.response, k.mask.trans h.mask⟩

/-- What every operation of settling leaves as it was. -/
structure State.Kept (s t : State) : Prop where
  tables : t.tables = s.tables := by rfl
  chans : t.chans = s.chans := by rfl
  engines : t.engines = s.engines := by rfl
  straps : t.straps = s.straps := by rfl
  now : t.now = s.now := by rfl
  spans : t.spans = s.spans := by rfl
  pending : t.pending = s.pending := by rfl
  count : t.det.count = s.det.count := by rfl
  total : t.det.total = s.det.total := by rfl
  stretch : t.det.stretch = s.det.stretch := by rfl
  spell : t.det.spell = s.det.spell := by rfl
  phaseA : t.out.phaseA = s.out.phaseA := by rfl
  rate : t.out.rate = s.out.rate := by rfl
  startCause : t.mc.startCause = s.mc.startCause := by rfl
  arrivals : t.pu.arrivals = s.pu.arrivals := by rfl
  link : ∀ p, (s.ports.get p).SameLink (t.ports.get p) := by intro p; exact PortRecord.SameLink.refl _

namespace State.Kept

theorem refl (s : State) : s.Kept s := {}

theorem trans {s t u : State} (h : s.Kept t) (k : t.Kept u) : s.Kept u :=
  ⟨k.tables.trans h.tables, k.chans.trans h.chans, k.engines.trans h.engines, k.straps.trans h.straps,
    k.now.trans h.now, k.spans.trans h.spans, k.pending.trans h.pending, k.count.trans h.count, k.total.trans h.total,
    k.stretch.trans h.stretch, k.spell.trans h.spell, k.phaseA.trans h.phaseA, k.rate.trans h.rate,
    k.startCause.trans h.startCause, k.arrivals.trans h.arrivals, fun p => (h.link p).trans (k.link p)⟩

/-- A fold of operations that each keep. -/
theorem foldl {α : Type} (f : State → α → State) (h : ∀ (s : State) (a : α), s.Kept (f s a)) (l : List α) (s : State) :
    s.Kept (l.foldl f s) := by
  induction l generalizing s with
  | nil => exact refl s
  | cons a l ih => exact (h s a).trans (ih (f s a))

/-- An operation done or not done. -/
theorem ite {s : State} {c : Prop} [Decidable c] {t u : State} (h : s.Kept t) (k : s.Kept u) :
    s.Kept (if c then t else u) := by
  split <;> assumption

end State.Kept

/-! ### The basic updates -/

theorem State.post_kept (s : State) (k : EventKind) (d : Nat) : s.Kept (s.post k d) := by
  refine { link := fun p => ?_ }
  cases p
  · exact {}
  · by_cases h : s.straps.cen <;> simp only [State.post, h, Ports.get] <;> exact {}
  · exact {}

theorem State.setGrp_kept (s : State) (g : GroupId) (r : GroupRun) : s.Kept (s.setGrp g r) := {}
theorem State.report_kept (s : State) (r : Report) : s.Kept (s.report r) := {}
theorem State.move_kept (s : State) (m : Move) : s.Kept (s.move m) := {}
theorem State.moveAll_kept (s : State) (ms : List Move) : s.Kept (s.moveAll ms) := {}
theorem State.evaluateCalls_kept (s : State) : s.Kept s.evaluateCalls := {}
theorem State.updateCall_kept (s : State) (tram : Nat) (f : Call → Call) : s.Kept (s.updateCall tram f) := {}
theorem State.withArb_kept (s : State) (a : Arbiter) : s.Kept { s with arb := a } := {}
theorem State.withGroups_kept (s : State) (v : Vector GroupRun 24) : s.Kept { s with groups := v } := {}
theorem State.withPu_kept (s : State) (u : PriorityUnit) (h : u.arrivals = s.pu.arrivals) :
    s.Kept { s with pu := u } := { arrivals := h }
theorem State.withSb_kept (s : State) (b : Standby) : s.Kept { s with sb := b } := {}
theorem State.markStale_kept (s : State) : s.Kept s.markStale := {}
theorem State.clearHold_kept (s : State) (g : GroupId) : s.Kept (s.clearHold g) := {}
theorem State.removeHold_kept (s : State) (g : GroupId) : s.Kept (s.removeHold g) := {}
theorem State.releaseCall_kept (s : State) (tram : Nat) : s.Kept (s.releaseCall tram) := {}

/-! ### Lamp outputs -/

theorem State.driveChange_kept (s : State) (o : OutId) (l : Lit) : s.Kept (s.driveChange o l) := by
  simp only [State.driveChange]
  exact .ite (.trans (t := State.loadChannel _ o) {} (State.post_kept _ _ _)) {}

theorem State.refreshOutput_kept (s : State) (o : OutId) : s.Kept (s.refreshOutput o) :=
  .ite (.refl s) (s.driveChange_kept o _)

theorem State.refreshOutputs_kept (s : State) : s.Kept s.refreshOutputs :=
  State.Kept.foldl _ State.refreshOutput_kept outIds s

theorem State.judgeRedOut_kept (s : State) (g : GroupId) : s.Kept (s.judgeRedOut g) := by
  simp only [State.judgeRedOut]
  exact .ite ((State.Kept.trans {} (State.post_kept _ _ _)).trans (State.report_kept _ _)) {}

theorem State.repeatRedOut_kept (s : State) : s.Kept s.repeatRedOut :=
  State.Kept.foldl _ (fun t _ => (State.post_kept t _ _).trans (State.report_kept _ _)) _ s

theorem State.giveStatus_kept (s : State) (o : OutId) (new : Proving) : s.Kept (s.giveStatus o new) := by
  simp only [State.giveStatus]
  refine .ite {} ?_
  have h : s.Kept (if (new.bad || s.lm.lamps[o].status.bad) = true then
      ({ s with lm := { s.lm with lamps := s.lm.lamps.set o { s.lm.lamps[o] with status := new } } }).post .lamp
        (o.val + 1)
      else { s with lm := { s.lm with lamps := s.lm.lamps.set o { s.lm.lamps[o] with status := new } } }) :=
    .ite (.trans {} (State.post_kept _ _ _)) {}
  split
  · exact h.trans (State.judgeRedOut_kept _ _)
  · exact h

theorem State.prove_kept (s : State) (o : OutId) (b : Bool) : s.Kept (s.prove o b) := by
  simp only [State.prove]
  refine .ite (.refl s) ?_
  have runs (n : Nat) (r : Option (Mismatch × Nat)) : s.Kept (s.setRuns o n r) := {}
  exact .ite (.ite ((runs _ _).trans (State.giveStatus_kept _ _ _)) (runs _ _))
    (.ite ((runs _ _).trans (State.giveStatus_kept _ _ _)) (runs _ _))

theorem State.monitorConflict_kept (s : State) (levels : BitVec 72) : s.Kept (s.monitorConflict levels) := by
  simp only [State.monitorConflict]
  split
  · exact {}
  · exact .ite ((State.Kept.trans {} (State.post_kept _ _ _)).trans (State.report_kept _ _)) {}

/-! ### Detector Logic -/

theorem State.judgeDemand_kept (s : State) : s.Kept s.judgeDemand := by
  simp only [State.judgeDemand]
  exact .ite (.refl s) {}

theorem State.clearLatch_kept (s : State) (g : GroupId) : s.Kept (s.clearLatch g) :=
  State.Kept.trans {} (State.judgeDemand_kept _)

theorem State.activity_kept (s : State) : s.Kept s.activity := by
  simp only [State.activity]
  exact .ite {} (.refl s)

/-! ### Arbiter -/

theorem State.judgeStatus_kept (s : State) : s.Kept s.judgeStatus := by
  simp only [State.judgeStatus]
  exact .ite (.ite {} {}) {}

theorem State.switchPlan_kept (s : State) : s.Kept s.switchPlan := by
  simp only [State.switchPlan]
  exact .ite (.refl s) {}

theorem State.handTarget_kept (s : State) (st : StageId) : s.Kept (s.handTarget st) := by
  simp only [State.handTarget]
  exact .trans (s.withGroups_kept _) (State.moveAll_kept _ _)

theorem State.changeTarget_kept (s : State) (st : StageId) : s.Kept (s.changeTarget st) := by
  simp only [State.changeTarget]
  have h : s.Kept (if (s.mc.mode.transitions && s.leavesOut st) = true then s.switchPlan else s) :=
    .ite s.switchPlan_kept (.refl s)
  exact ((h.trans (State.withArb_kept _ _)).trans (State.judgeStatus_kept _)).trans
    ((State.handTarget_kept _ st).trans (State.evaluateCalls_kept _))

theorem State.recompute_kept (s : State) (again : Bool) : s.Kept (s.recompute again) := by
  simp only [State.recompute]
  exact .ite (.ite (State.report_kept _ _) (.refl s)) (s.changeTarget_kept _)

/-! ### Group Sequencer -/

theorem State.checkRedTimers_kept (s : State) : s.Kept s.checkRedTimers := by
  simp only [State.checkRedTimers]
  refine .ite ?_ (.refl s)
  cases s.mc.mode <;> first | exact .refl s | exact .ite {} (.refl s)

theorem State.stopEntered_kept (s : State) (g : GroupId) : s.Kept (s.stopEntered g) := by
  simp only [State.stopEntered]
  refine State.Kept.trans ?_ (State.checkRedTimers_kept _)
  exact .ite {} {}

theorem State.setServiceEnd_kept (s : State) (g : GroupId) : s.Kept (s.setServiceEnd g) := by
  simp only [State.setServiceEnd]
  split
  · exact .ite (.ite {} {}) (.refl s)
  · exact .refl s

theorem State.reportChange_kept (s : State) (g : GroupId) (old : GroupState) : s.Kept (s.reportChange g old) := by
  simp only [State.reportChange]
  have a := s.refreshOutputs_kept
  have b := a.trans (State.judgeRedOut_kept _ g)
  have c := b.trans ((State.clearLatch_kept _ g).trans (State.setServiceEnd_kept _ g))
  have fin {t : State} (h : s.Kept t) (n : GroupState) :
      s.Kept (if (old.active || n.active) = true then
        (if n = .stop then (t.judgeStatus.moveAll (t.judgeStatus.startMoves g)).stopEntered g
          else t.judgeStatus.moveAll (t.judgeStatus.startMoves g)).evaluateCalls
        else if n = .stop then (t.judgeStatus.moveAll (t.judgeStatus.startMoves g)).stopEntered g
          else t.judgeStatus.moveAll (t.judgeStatus.startMoves g)) := by
    have d := (h.trans t.judgeStatus_kept).trans (State.moveAll_kept _ (t.judgeStatus.startMoves g))
    have e := d.trans (State.stopEntered_kept _ g)
    exact .ite ((State.Kept.ite e d).trans (State.evaluateCalls_kept _)) (.ite e d)
  exact fin (.ite c b) _

theorem State.orderAll_kept (s : State) (f : GroupConfig → GroupRun → GroupRun) : s.Kept (s.orderAll f) := by
  simp only [State.orderAll]
  exact State.Kept.trans {} (State.Kept.foldl _ (fun t g => .ite (.refl t) (t.reportChange_kept g _)) _ _)

theorem State.giveStart_kept (s : State) : s.Kept s.giveStart := s.orderAll_kept _
theorem State.giveOrder_kept (s : State) (o : Order) : s.Kept (s.giveOrder o) := s.orderAll_kept _
theorem State.giveFault_kept (s : State) : s.Kept s.giveFault := s.orderAll_kept _

theorem State.enterStop_kept (s : State) (g : GroupId) : s.Kept (s.enterStop g) := by
  simp only [State.enterStop]
  have a := (s.setGrp_kept g { s.grp g with
    state := .stop, stateTimer := none, minStopTimer := startedTimer (s.cfg g).minStop }).trans
    (State.reportChange_kept _ g (s.grp g).state)
  split
  · exact a
  · exact a.trans ((State.setGrp_kept _ _ _).trans (State.reportChange_kept _ _ _))

theorem State.startGo_kept (s : State) (g : GroupId) : s.Kept (s.startGo g) :=
  (s.setGrp_kept g _).trans (State.reportChange_kept _ _ _)

theorem State.enterPrepare_kept (s : State) (g : GroupId) : s.Kept (s.enterPrepare g) :=
  (s.setGrp_kept g _).trans (State.reportChange_kept _ _ _)

theorem State.stepOut_kept (s : State) (g : GroupId) : s.Kept (s.stepOut g) :=
  .ite (s.startGo_kept g) (s.enterPrepare_kept g)

theorem State.setStartTimer_kept (s : State) (g : GroupId) : s.Kept (s.setStartTimer g) :=
  .ite (.ite (s.setGrp_kept _ _) (.ite (s.stepOut_kept g) (s.setGrp_kept _ _))) (.refl s)

theorem State.endGo_kept (s : State) (g : GroupId) : s.Kept (s.endGo g) := by
  simp only [State.endGo]
  have a := (s.withPu_kept { s.pu with served := setGroupBit s.pu.served g false } rfl).trans
    (State.setGrp_kept _ g
      (({ s with pu := { s.pu with served := setGroupBit s.pu.served g false } } : State).grp g).ended)
  exact .ite (a.trans (State.enterStop_kept _ g))
    (a.trans ((State.setGrp_kept _ _ _).trans (State.reportChange_kept _ _ _)))

/-! ### Standby Unit -/

theorem State.handStage_kept (s : State) (st : StageId) : s.Kept (s.handStage st) :=
  State.Kept.trans {} (State.recompute_kept _ true)

theorem State.judgeStep_kept (s : State) : s.Kept s.judgeStep := by
  simp only [State.judgeStep]
  refine .ite ?_ (.refl s)
  split
  · exact .ite (State.Kept.trans {} (State.handStage_kept _ _)) (.refl s)
  · exact .refl s

theorem State.judgeRest_kept (s : State) : s.Kept s.judgeRest := by
  simp only [State.judgeRest]
  exact .ite (State.Kept.trans {} (State.handStage_kept _ _)) (.refl s)

theorem State.establish_kept (s : State) : s.Kept s.establish :=
  (State.Kept.trans {} (State.judgeStep_kept _)).trans (State.judgeRest_kept _)

theorem State.takeEstablished_kept (s : State) (st : StageId) : s.Kept (s.takeEstablished st) :=
  .ite s.establish_kept (.refl s)

theorem State.startCycle_kept (s : State) : s.Kept s.startCycle := by
  simp only [State.startCycle]
  split <;> exact {}

theorem State.suspendStep_kept (s : State) : s.Kept s.suspendStep := by
  simp only [State.suspendStep]
  exact .ite {} (.refl s)

theorem State.resumeStep_kept (s : State) (r : Option Nat) : s.Kept (s.resumeStep r) := by
  simp only [State.resumeStep]
  exact .ite (.ite (State.Kept.trans {} (State.establish_kept _)) {}) (.refl s)

/-! ### Priority Unit -/

theorem State.makeRoom_kept (s : State) : s.Kept s.makeRoom := by
  simp only [State.makeRoom]
  refine .ite (.refl s) ?_
  have a (n : Nat) : s.Kept (({ s with pu := { s.pu with stack := s.pu.stack.dropLast } }).post .stackOverflow n) :=
    .trans {} (State.post_kept _ _ _)
  split
  · exact (a _).trans (State.releaseCall_kept _ _)
  · exact a _

theorem State.pushRecord_kept (s : State) (c : Option (Nat × Action)) : s.Kept (s.pushRecord c) := by
  simp only [State.pushRecord]
  exact s.makeRoom_kept.trans {}

theorem State.suspendCall_kept (s : State) (v : Call) : s.Kept (s.suspendCall v) := by
  simp only [State.suspendCall]
  exact (s.pushRecord_kept (some (v.tram, v.action))).trans {}

theorem State.requestPriority_kept (s : State) (p : Option StageId) : s.Kept (s.requestPriority p) :=
  (s.withArb_kept _).trans (State.recompute_kept _ _)

theorem State.handRequest_kept (s : State) (p : Option StageId) : s.Kept (s.handRequest p) :=
  .ite (s.requestPriority_kept p) {}

theorem State.startEarly_kept (s : State) (c : Call) : s.Kept (s.startEarly c) := by
  have fin {t : State} (h : s.Kept t) :
      s.Kept ((t.updateCall c.tram fun c => c.plain .early).handRequest
        (some ((t.updateCall c.tram fun c => c.plain .early).priorityStage c.group))) :=
    h.trans ((t.updateCall_kept _ _).trans (State.handRequest_kept _ _))
  simp only [State.startEarly]
  cases s.actingCall? with
  | none => exact fin ((s.pushRecord_kept none).trans (State.suspendStep_kept _))
  | some v =>
    have a := fin (s.suspendCall_kept v)
    exact .ite (a.trans (State.removeHold_kept _ _)) a

theorem State.judgeCall_kept (sp : State × Bool) (tram : Nat) : sp.1.Kept (State.judgeCall sp tram).1 := by
  obtain ⟨s, passed⟩ := sp
  simp only [State.judgeCall]
  split
  · exact .refl s
  · split
    · exact .refl s
    · split
      · exact .refl s
      · split
        · exact s.updateCall_kept _ _
        · split
          · exact s.updateCall_kept _ _
          · split
            · exact s.updateCall_kept _ _
            · split
              · exact s.updateCall_kept _ _
              · exact s.startEarly_kept _

theorem State.judgeCalls_kept (trams : List Nat) (sp : State × Bool) :
    sp.1.Kept (trams.foldl State.judgeCall sp).1 := by
  induction trams generalizing sp with
  | nil => exact .refl _
  | cons a l ih => exact (State.judgeCall_kept sp a).trans (ih _)

theorem State.pass_kept (s : State) : s.Kept s.pass := State.judgeCalls_kept _ (s, false)

theorem State.popRecords_kept (s : State) (l : List ReturnRecord) : s.Kept (s.popRecords l).1 := by
  induction l generalizing s with
  | nil => exact {}
  | cons r l ih =>
    simp only [State.popRecords]
    split
    · split
      · exact ih s
      · exact {}
    · split
      · exact ih s
      · split
        · exact (s.releaseCall_kept _).trans (ih _)
        · exact {}

theorem State.resumeEarly_kept (s : State) (c : Call) : s.Kept (s.resumeEarly c) := by
  simp only [State.resumeEarly]
  exact .ite (.ite {} {}) {}

theorem State.handOutcome_kept (s : State) (early : Bool) (o : PopOutcome) : s.Kept (s.handOutcome early o) := by
  cases o with
  | empty => exact .ite (s.handRequest_kept _) (.refl s)
  | back st r => exact (State.withArb_kept _ _).trans (State.recompute_kept _ _)
  | resume c => exact (s.resumeEarly_kept c).trans (State.handRequest_kept _ _)

theorem State.endAction_kept (s : State) (early : Bool) : s.Kept (s.endAction early) := by
  simp only [State.endAction]
  have a : s.Kept (s.startRecovery.popRecords s.startRecovery.pu.stack).1 :=
    State.Kept.trans {} (State.popRecords_kept _ _)
  have b := a.trans (State.handOutcome_kept _ early (s.startRecovery.popRecords s.startRecovery.pu.stack).2)
  exact (State.Kept.ite (b.trans (State.resumeStep_kept _ _)) b).trans (State.pass_kept _)

theorem State.endActionOf_kept (s : State) (c : Call) : s.Kept (s.endActionOf c) :=
  (s.updateCall_kept _ _).trans (State.endAction_kept _ _)

theorem State.takeServiceEnd_kept (s : State) (tram : Nat) : s.Kept (s.takeServiceEnd tram) := by
  simp only [State.takeServiceEnd]
  split
  · exact .ite (s.endActionOf_kept _) (.refl s)
  · exact .refl s

theorem State.arriveHold_kept (s : State) (g : GroupId) : s.Kept (s.arriveHold g) := by
  simp only [State.arriveHold]
  split
  · exact (s.clearHold_kept g).trans (State.endActionOf_kept _ _)
  · exact s.clearHold_kept g

theorem State.reachHoldEnd_kept (s : State) (g : GroupId) : s.Kept (s.reachHoldEnd g) :=
  .ite ((s.arriveHold_kept g).trans (State.move_kept _ _)) (.refl s)

theorem State.grantExtend_kept (s : State) (c : Call) : s.Kept (s.grantExtend c) := by
  have grant {t : State} (h : s.Kept t) (f : Call → Call) (r : State → GroupRun) :
      s.Kept { (t.updateCall c.tram f).setGrp c.group (r (t.updateCall c.tram f)) with
        pu := { ((t.updateCall c.tram f).setGrp c.group (r (t.updateCall c.tram f))).pu with
          served := setGroupBit ((t.updateCall c.tram f).setGrp c.group (r (t.updateCall c.tram f))).pu.served c.group
            true } } := by
    refine .trans ?_ (State.withPu_kept _ _ rfl)
    exact h.trans ((t.updateCall_kept _ _).trans (State.setGrp_kept _ _ _))
  simp only [State.grantExtend]
  cases s.actingCall? with
  | none => exact grant s.suspendStep_kept _ fun u => { u.grp c.group with holdEnd := some (u.now + us (c.eta + u.passage)) }
  | some v =>
    have a := grant (s.suspendCall_kept v)
      (fun d => { d.plain .extend with
        extensionLimit := some ((s.suspendCall v).now + us (s.suspendCall v).plan.maxExt) })
      fun u => { u.grp c.group with holdEnd := some (u.now + us (c.eta + u.passage)) }
    refine .ite ?_ (a.trans (State.removeHold_kept _ _))
    exact a.trans (State.handRequest_kept _ _)

theorem State.answerTermination_kept (s : State) (g : GroupId) : s.Kept (s.answerTermination g) := by
  simp only [State.answerTermination]
  refine .ite (s.endGo_kept g) ?_
  split
  · exact s.endGo_kept g
  · exact .ite (s.endGo_kept g) (.ite (s.grantExtend_kept _) ((s.post_kept _ _).trans (State.endGo_kept _ g)))

theorem State.terminate_kept (s : State) (g : GroupId) : s.Kept (s.terminate g) := by
  simp only [State.terminate]
  split
  · exact s.answerTermination_kept g
  all_goals exact s.endGo_kept g

theorem State.checkTermination_kept (s : State) (g : GroupId) : s.Kept (s.checkTermination g) := by
  exact .ite (.ite (s.report_kept _) (s.terminate_kept g)) (.refl s)

theorem State.removeCall_kept (s : State) (c : Call) : s.Kept (s.removeCall c) := by
  simp only [State.removeCall]
  have a := (State.Kept.trans (s := s) (t := { s with
    pu := { s.pu with
      calls := s.pu.calls.filter fun d => d.tram != c.tram
      stack := s.pu.stack.map (ReturnRecord.withdraw c.tram) } }) {} (State.refreshOutputs_kept _)).trans
    (State.evaluateCalls_kept _)
  cases c.state
  case early => exact a.trans (State.endAction_kept _ _)
  case extend =>
    exact a.trans (((State.clearHold_kept _ _).trans (State.endAction_kept _ _)).trans (State.move_kept _ _))
  all_goals exact a

theorem State.teardown_kept (s : State) : s.Kept s.teardown := by
  simp only [State.teardown]
  have a : s.Kept { s with
      pu := { s.pu with calls := [], stack := [], recovery := none, resumedMark := false, served := 0 }
      arb := { s.arb with priorityRequest := none }, work := { s.work with requests := [] } } := {}
  have fin {t : State} (h : s.Kept t) :
      s.Kept (match s.pu.calls with
        | [] => t
        | c :: _ => (t.post .callDropped c.tram).refreshOutputs) := by
    cases s.pu.calls with
    | nil => exact h
    | cons c l => exact h.trans ((State.post_kept _ _ _).trans (State.refreshOutputs_kept _))
  cases s.actingCall? with
  | none => exact fin a
  | some c => exact fin (.ite (a.trans (State.removeHold_kept _ _)) a)

/-! ### Mode Controller -/

theorem State.leaveDark_kept (s : State) : s.Kept s.leaveDark :=
  State.Kept.trans {} (State.refreshOutputs_kept _)

theorem ModeControl.entered_startCause (m : ModeControl) (new : Mode) : (m.entered new).startCause = m.startCause := by
  unfold ModeControl.entered
  split
  · rfl
  · split <;> rfl

theorem State.changeMode_kept (s : State) (new : Mode) : s.Kept (s.changeMode new) := by
  simp only [State.changeMode]
  have a : s.Kept { s with mc := s.mc.entered new, arb := s.arb.entered new } :=
    { startCause := s.mc.entered_startCause new }
  have b := a.trans (State.post_kept _ .mode new.code)
  have c {t : State} (h : s.Kept t) :
      s.Kept (if new.isSignal = true then (t.post .authority new.authority).markStale else t) :=
    .ite ((h.trans (State.post_kept _ _ _)).trans (State.markStale_kept _)) h
  have d {t : State} (h : s.Kept t) : s.Kept (if (new.isIdle || new == .closing) = true then t.teardown else t) :=
    .ite (h.trans t.teardown_kept) h
  have e {t : State} (h : s.Kept t) (p : Prop) [Decidable p] :
      s.Kept (if p then { t with sb := Standby.reset } else t) :=
    .ite (h.trans (State.withSb_kept _ _)) h
  have f {t : State} (h : s.Kept t) (p : Prop) [Decidable p] : s.Kept (if p then t.leaveDark else t) :=
    .ite (h.trans t.leaveDark_kept) h
  have g {t : State} (h : s.Kept t) : s.Kept (if new.isSignal = true then t.repeatRedOut else t) :=
    .ite (h.trans t.repeatRedOut_kept) h
  exact g (f (e (d (c b)) _) _)

theorem State.enterLocal_kept (s : State) (d : Option StageId) : s.Kept (s.enterLocal d) :=
  (s.changeMode_kept _).trans ((State.withArb_kept _ _).trans (State.recompute_kept _ _))

theorem State.enterCentral_kept (s : State) : s.Kept s.enterCentral :=
  (s.changeMode_kept _).trans ((State.withArb_kept _ _).trans (State.recompute_kept _ _))

theorem State.enterStandby_kept (s : State) : s.Kept s.enterStandby :=
  ((s.changeMode_kept _).trans (State.Kept.trans {} (State.startCycle_kept _))).trans (State.recompute_kept _ _)

theorem State.enterClosing_kept (s : State) (o : Order) : s.Kept (s.enterClosing o) :=
  ((s.changeMode_kept _).trans (State.Kept.trans {} (State.checkRedTimers_kept _))).trans (State.recompute_kept _ _)

theorem State.enterFaultFlash_kept (s : State) : s.Kept s.enterFaultFlash :=
  ((s.changeMode_kept _).trans (State.giveFault_kept _)).trans (State.recompute_kept _ _)

theorem State.enterFlash_kept (s : State) : s.Kept s.enterFlash :=
  ((s.changeMode_kept _).trans (State.giveOrder_kept _ _)).trans (State.recompute_kept _ _)

theorem State.enterDark_kept (s : State) : s.Kept s.enterDark :=
  ((s.changeMode_kept _).trans (State.giveOrder_kept _ _)).trans (State.recompute_kept _ _)

theorem State.refreshPort_kept (s : State) (p : Port) : s.Kept (s.refreshPort p) := by
  simp only [State.refreshPort]
  refine .ite (.refl s) ?_
  cases p <;> exact {}

theorem State.enterStartup_kept (s : State) (p : Port) : s.Kept (s.enterStartup p) :=
  ((s.changeMode_kept _).trans (State.Kept.trans {} (State.refreshPort_kept _ p))).trans
    (((State.giveStart_kept _).trans (State.checkRedTimers_kept _)).trans (State.recompute_kept _ _))

theorem State.enterFallback_kept (s : State) : s.Kept s.enterFallback :=
  .ite s.enterStandby_kept (s.enterClosing_kept _)

theorem State.fallThrough_kept (s : State) : s.Kept s.fallThrough :=
  .ite (s.enterLocal_kept _) s.enterFallback_kept

theorem State.endStartup_kept (s : State) : s.Kept s.endStartup := by
  simp only [State.endStartup]
  exact .ite (State.Kept.trans {} (State.enterLocal_kept _ _)) (State.Kept.trans {} (State.enterFallback_kept _))

theorem State.takeReportEstablished_kept (s : State) (st : StageId) : s.Kept (s.takeReportEstablished st) := by
  simp only [State.takeReportEstablished]
  cases s.mc.mode
  case startup => exact .ite s.endStartup_kept (.refl s)
  case standby => exact s.takeEstablished_kept st
  all_goals exact .refl s

theorem State.takeRedOut_kept (s : State) : s.Kept s.takeRedOut := .ite (s.enterClosing_kept _) (.refl s)

theorem State.takeConflictFault_kept (s : State) : s.Kept s.takeConflictFault := by
  simp only [State.takeConflictFault]
  cases s.mc.mode
  case dark => exact .refl s
  case faultFlash => exact .refl s
  all_goals exact s.enterFaultFlash_kept

/-! ### Settling -/

theorem State.takeReport_kept (s : State) (r : Report) : s.Kept (s.takeReport r) := by
  cases r with
  | established st => exact s.takeReportEstablished_kept st
  | judgeStep => exact s.judgeStep_kept.trans (State.judgeRest_kept _)
  | judgeRest => exact s.judgeRest_kept
  | holdEnd g => exact s.reachHoldEnd_kept g
  | serviceEnd tram => exact s.takeServiceEnd_kept tram
  | redOut g => exact s.takeRedOut_kept
  | conflictFault => exact s.takeConflictFault_kept

theorem State.takeMove_kept (s : State) (m : Move) : s.Kept (s.takeMove m) := by
  cases m with
  | start g => exact s.setStartTimer_kept g
  | terminate g => exact s.checkTermination_kept g

theorem State.settleStep_kept (s : State) : s.Kept s.settleStep := by
  simp only [State.settleStep]
  split
  · exact State.Kept.trans {} (State.takeMove_kept _ _)
  · split
    · exact State.Kept.trans {} (State.requestPriority_kept _ _)
    · split
      · exact State.Kept.trans {} (State.takeReport_kept _ _)
      · exact .ite (State.Kept.trans {} (State.pass_kept _)) (.refl s)

/-- Whatever a settling step keeps, the settling of a moment keeps. -/
theorem State.settle_induct {P : State → Prop} (step : ∀ s, P s → P s.settleStep) {s : State} (h : P s) :
    P s.settle := by
  simp only [State.settle]
  generalize Config.settleBound = n
  induction n generalizing s with
  | zero => exact h
  | succ n ih =>
    simp only [State.settleFor]
    split
    · exact h
    · exact ih (step s h)

/-- What a moment's settling leaves as it was. -/
theorem State.settle_kept (s : State) : s.Kept s.settle :=
  State.settle_induct (P := fun t => s.Kept t) (fun t h => h.trans t.settleStep_kept) (.refl s)

/-- With nothing in flight there is nothing to settle. -/
theorem State.settle_of_idle {s : State} (h : s.work.isIdle = true) : s.settle = s := by
  simp only [State.settle]
  generalize Config.settleBound = n
  cases n with
  | zero => rfl
  | succ n => unfold State.settleFor; rw [if_pos h]

/-- One settling step taken off, where something is in flight. -/
theorem State.settleFor_succ {s : State} (n : Nat) (h : s.work.isIdle = false) :
    s.settleFor (n + 1) = s.settleStep.settleFor n := by
  rw [State.settleFor]; simp [h]

end Sys2Proof.Machine
end

