-- ==== Sys2Proof/Tests/Slice0.lean ====
section
/-! SUPPORT. Tests of the model on the worked junction of 02_conflicts_intergreens_and_stages.md (2.6), with the results
that the manual's worked cases give, the refusals of ill-formed commands, and for each statement a state and operands that
meet its hypotheses. Times are held in microseconds: `us n` is n ds. -/

set_option Elab.async false

open Sys2Proof Sys2Proof.Machine

namespace Sys2Proof.Tests

/-! ## The worked junction (2.6) -/

/-- The entry of a short list at a position; `d` beyond it. -/
def nth {α : Type} (l : List α) (n : Nat) (d : α) : α := l.getD n d

/-- Plan 0 of 2.6 and 4.11. -/
def plan0 : Plan :=
  { minGo := Vector.ofFn fun g : Fin 24 => nth [100, 60, 60, 30] g.val 30, maxGo := Vector.replicate 24 200, margin := 30,
    passage := 40, maxExt := 150, recovery := 300, callTimeout := 600, restDelay := 100 }

/-- The groups V1, V2, P3 and T4. -/
def groups0 : Vector GroupConfig 24 :=
  (((Tables.reset.groups.set 0 ⟨.vehicle, 40, 20, 30, false⟩).set 1 ⟨.vehicle, 30, 20, 30, false⟩).set 2
    ⟨.pedestrian, 80, 0, 20, false⟩).set 3 ⟨.tram, 20, 0, 20, false⟩

/-- A row of the matrix with its first four entries. -/
def row0 (a b c d : Option Nat) : Vector (Option Nat) 24 :=
  ((((Vector.replicate 24 none).set 0 a).set 1 b).set 2 c).set 3 d

/-- The intergreens of 2.6. -/
def matrix0 : Vector (Vector (Option Nat) 24) 24 :=
  (((Tables.reset.matrix.set 0 (row0 none (some 50) (some 50) none)).set 1 (row0 (some 40) none none (some 60))).set 2
    (row0 (some 100) none none (some 90))).set 3 (row0 none (some 30) (some 30) none)

/-- The tables of 2.6, a standby sequence 1, 2, permission FULL, GO-role and STOP-role channels for V1 and V2, a loop at
channel 1 and a push button at channel 25 of a contact bank. -/
def tables0 : Tables :=
  { Tables.reset with
    groups := groups0, matrix := matrix0,
    stages := (((Tables.reset.stages.set 0 (some 1)).set 1 (some 2)).set 2 (some 9)).set 3 (some 6),
    junction := { Junction.reset with
      startStage := 1, restStage := 1, priority := Junction.reset.priority.set 3 3, sequence := [1, 2],
      permission := .full },
    outputs := ((Tables.reset.outputs.set 0 ⟨.groupRole 0 .go, false⟩).set 1 ⟨.groupRole 1 .go, false⟩).set 2
      ⟨.groupRole 0 .stop, true⟩,
    detectors := (Tables.reset.detectors.set 0 ⟨true, 2, 1, false, true, true, 20⟩).set 24
      ⟨true, 4, 0, true, true, false, 0⟩,
    banks := Tables.reset.banks.set 3 ⟨.contact, 512, 2⟩, plans := Tables.reset.plans.set 0 plan0 }

/-- The worked junction in DARK. -/
def dark : State :=
  { State.reset with
    tables := tables0,
    chans := (State.reset.chans.set 0 { Channel.reset with state := .untuned }).set 24
      { Channel.reset with state := .vacant },
    engines := State.reset.engines.set 0 (some ⟨0, 512⟩) }

/-- A group in STOP that left GO long ago. -/
def stopped : GroupRun := { GroupRun.reset with state := .stop, sinceGo := some (us 400) }

/-- A group in GO past its min go of n. -/
def going (n : Nat) : GroupRun :=
  { GroupRun.reset with state := .go, minGoInForce := n, maxGoInForce := 200, minGoLapsed := true, goElapsed := us 240 }

/-- The worked junction in a mode, with a stage established and its groups in GO past min go. -/
def running (m : Mode) (st : StageId) (v1 v2 p3 t4 : GroupRun) : State :=
  { dark with
    groups := (((dark.groups.set 0 v1).set 1 v2).set 2 p3).set 3 t4,
    arb := ⟨st, st, true, none, some st, none, none⟩,
    mc := { dark.mc with mode := m, localTimer := some (us 40), localAlive := true, centralTimer := some (us 40),
                         centralAlive := true } }

/-- Stage 1, V1 alone. -/
def stage1 (m : Mode) : State := running m 1 (going 100) stopped stopped stopped

/-- Stage 2, V2 alone. -/
def stage2 (m : Mode) : State := running m 2 stopped (going 60) stopped stopped

/-- Stage 3, V1 and T4. -/
def stage3 (m : Mode) : State := running m 3 (going 100) stopped stopped (going 30)

/-- Stage 4, V2 and P3. -/
def stage4 (m : Mode) : State := running m 4 stopped (going 60) (going 60) stopped

/-- The next state of a command; the state itself where there is none. -/
def after (i : Instr) (s : State) : State :=
  match exec i s with
  | .next t => t
  | .fault _ | .refused _ => s

/-- A state with one group record changed. -/
def with1 (s : State) (g : GroupId) (f : GroupRun → GroupRun) : State := s.setGrp g (f (s.grp g))

/-- A call of tram 311 for T4 (4.11). -/
def tram311 : Call :=
  { tram := 311, group := 3, cls := 2, travel := 250, elapsed := us 160, stamp := 0, state := .waiting,
    actionTimer := some 0, extensionLimit := none, serviceEnd := none }

/-- A state with one call. -/
def withCall (s : State) (c : Call) : State := { s with pu := { s.pu with calls := [c], arrivals := 1 } }

/-- What the start timer, state and flags of a group are. -/
def seen (s : State) (g : GroupId) : GroupState × Option Nat × Bool :=
  ((s.grp g).state, (s.grp g).startTimer, (s.grp g).gaining)

/-! ## Ill-formed commands -/

/-- WellFormed refuses one term for each of its checks. -/
theorem test_wf_refuses_events :
    [Instr.hardwareReset 4 true 0, .hardwareReset 0 true 16, .byteReceived .l 256 true, .unknownKind .l 256,
      .unknownKind .t 0x32, .startTimerExpiry 0, .prepareTimerExpiry 25, .minGoExpiry 0, .holdEndReached 25,
      .clearTimerExpiry 0, .minStopExpiry 25, .maxGoReached 0, .actionTimerExpiry 0, .serviceEndReached 65535,
      .callTimeout 0, .loopVisitComplete 4 none, .loopVisitComplete 0 (some 4096001), .contactSample 4 0,
      .stretchTimerExpiry 33].all (fun i => i.wf = false) = true := by decide +kernel

theorem test_wf_refuses_requests :
    [Instr.stageDemand .l 256, .selectPlan .l 256, .writeGroup .l ⟨256, 0, 0, 0, 0, 0⟩,
      .writeGroup .l ⟨0, 256, 0, 0, 0, 0⟩, .writeGroup .l ⟨0, 0, 256, 0, 0, 0⟩, .writeGroup .l ⟨0, 0, 0, 256, 0, 0⟩,
      .writeGroup .l ⟨0, 0, 0, 0, 256, 0⟩, .writeGroup .l ⟨0, 0, 0, 0, 0, 256⟩,
      .writeConflictRow .l 256 (Vector.replicate 24 0), .writeConflictRow .l 1 (Vector.replicate 24 256),
      .writeStage .l 256 0 0, .writeStage .l 1 256 0, .writeOutput .l ⟨256, 0, 0, 0, 0⟩, .writeOutput .l ⟨0, 256, 0, 0, 0⟩,
      .writeOutput .l ⟨0, 0, 256, 0, 0⟩, .writeOutput .l ⟨0, 0, 0, 256, 0⟩, .writeOutput .l ⟨0, 0, 0, 0, 256⟩,
      .writeBank .l ⟨256, 0, 0, 0⟩, .writeBank .l ⟨0, 256, 0, 0⟩, .writeBank .l ⟨0, 0, 65536, 0⟩,
      .writeBank .l ⟨0, 0, 0, 256⟩, .readTable .l 256 0, .readTable .l 0 256, .forceOutput .l 256 0, .forceOutput .l 0 256,
      .readCounts .c 256, .callCheckin .t ⟨65536, 0, 0, 0⟩, .callCheckin .t ⟨0, 256, 0, 0⟩, .callCheckin .t ⟨0, 0, 256, 0⟩,
      .callCheckin .t ⟨0, 0, 0, 65536⟩, .callCheckout .t 65536, .callCancel .t 65536].all (fun i => i.wf = false) = true := by
  decide +kernel

/-- A junction write with every field at its least. -/
def junctionWrite : JunctionWrite := Junction.reset.asWrite

theorem test_wf_refuses_junctions :
    [{ junctionWrite with startStage := 256 }, { junctionWrite with restStage := 256 },
      { junctionWrite with priority := Vector.replicate 24 256 }, { junctionWrite with seqLength := 256 },
      { junctionWrite with seq := Vector.replicate 16 256 }, { junctionWrite with permission := 256 },
      { junctionWrite with localTime := 256 }, { junctionWrite with centralPeriod := 65536 },
      { junctionWrite with startupRed := 256 }, { junctionWrite with closingRed := 256 },
      { junctionWrite with standbyPlan := 256 }, { junctionWrite with flasherRate := 256 }].all
      (fun w => !w.wf) = true := by decide +kernel

/-- A detector write with every field in its payload. -/
def detectorWrite : DetectorWrite := tables0.detectors[0].asWrite 0 300 0

theorem test_wf_refuses_detectors :
    [{ detectorWrite with channel := 256 }, { detectorWrite with enabled := 256 }, { detectorWrite with demandType := 256 },
      { detectorWrite with activity := 256 }, { detectorWrite with substitution := 256 },
      { detectorWrite with stretch := 256 }, { detectorWrite with sensitivity := 65536 },
      { detectorWrite with presence := 65536 }].all (fun w => !w.wf) = true := by decide +kernel

/-- A plan write that stores plan 0 of 2.6 as plan 3. -/
def planWrite : PlanWrite := plan0.asWrite 3

theorem test_wf_refuses_plans :
    [{ planWrite with plan := 256 }, { planWrite with minGo := Vector.replicate 24 65536 },
      { planWrite with maxGo := Vector.replicate 24 65536 }, { planWrite with margin := 256 },
      { planWrite with passage := 256 }, { planWrite with maxExt := 65536 }, { planWrite with recovery := 65536 },
      { planWrite with callTimeout := 65536 }, { planWrite with restDelay := 65536 }].all (fun w => !w.wf) = true := by
  decide +kernel

theorem test_wf_accepts :
    [Instr.hardwareReset 3 false 15, .byteReceived .c 255 false, .unknownKind .l 0x33, .startTimerExpiry 24,
      .callTimeout 65534, .loopVisitComplete 3 (some 4096000), .stretchTimerExpiry 32, .writeJunction .l junctionWrite,
      .writeDetector .l detectorWrite, .writePlan .l planWrite, .callCheckin .t ⟨65535, 255, 255, 65535⟩].all
      (fun i => i.wf) = true := by decide +kernel

/-! ## The link -/

/-- The note of 10.2: over the ASCII digits 1 to 9 the CRC is 0x29B1. -/
theorem test_crc_of_digits : crcOf [0x31, 0x32, 0x33, 0x34, 0x35, 0x36, 0x37, 0x38, 0x39] = 0x29B1 := by decide +kernel

/-- The frame of 10.6's STAGE_DEMAND for stage 3 is six bytes: SYNC, LEN 2, KIND 0x06, the stage, the CRC. -/
theorem test_stage_demand_frame :
    (frame 0x06 [3]).length = 6 ∧ (frame 0x06 [3]).take 4 = [0xC3, 0x02, 0x06, 0x03] := by decide +kernel

/-- 10.6: after SYNC, LEN 2 and KIND the receiver is in BODY with 1 byte to come; after the frame it hunts, and the slot is
BUSY with the response of KIND 0x86 and result OK. -/
theorem test_stage_demand_received :
    let s := (stage1 .localMode).receiveAll .l [0xC3, 0x02, 0x06]
    let t := (stage1 .localMode).receiveAll .l (frame 0x06 [3])
    s.ports.l.rx = .body ∧ s.ports.l.toCome = 1 ∧ t.ports.l.rx = .hunt ∧ t.ports.l.busy = true ∧ t.arb.demand = some 3 ∧
      t.ports.l.response = [frame 0x86 [0x00]] := by decide +kernel

/-- R182: a LEN of 0 or 201 abandons the frame with FRAMING (bit 16), 1 and 200 do not. -/
theorem test_length_bounds :
    let at_ (n : Nat) := (after (.byteReceived .l n true) (State.reset.receiveByte .l 0xC3 true)).ports.l
    (at_ 0).rx = .hunt ∧ (at_ 0).flags = 0x10001 ∧ (at_ 1).rx = .body ∧ (at_ 200).toCome = 200 ∧ (at_ 201).rx = .hunt := by
  decide +kernel

/-- R112, R179: port C's events after a reset that straps it off are none, and L's and T's hold START. -/
theorem test_disabled_port :
    let t := after (.hardwareReset 2 false 9) (stage1 .localMode)
    t.ports.c.flags = 0 ∧ t.ports.l.flags = 1 ∧ t.ports.t.attention = true ∧ t.mc.mode = .dark := by decide +kernel

/-! ## The worked cases of 2.6 and 3.6 -/

/-- 2.5: with V2 and P3 in GO, N(T4) is max(60, 90). -/
theorem test_clearance_need : (stage4 .localMode).clearanceNeed 3 = 90 := by decide +kernel

/-- 2.6, from stage 4 to stage 3, time 0: V1's start timer is 80, T4's 90, V2 and P3 in CLEAR. -/
theorem test_stage4_to_stage3 :
    let t := after (.stageDemand .l 3) (stage4 .localMode)
    seen t 0 = (.stop, some (us 80), true) ∧ seen t 3 = (.stop, some (us 90), true) ∧ (t.grp 1).state = .clear ∧
      (t.grp 2).stateTimer = some (us 80) ∧ t.arb.target = 3 ∧ t.arb.stable = false := by decide +kernel

/-- 2.6, time 30: V2's entry to STOP recomputes V1's start timer to 50 and T4's to 60. -/
theorem test_clear_expiry_recomputes :
    let s := with1 (after (.stageDemand .l 3) (stage4 .localMode)) 2 fun r => { r with sinceGo := some (us 30) }
    let t := after (.clearTimerExpiry 2) (with1 s 1 fun r => { r with sinceGo := some (us 30), stateTimer := some 0 })
    (t.grp 1).state = .stop ∧ (t.grp 1).minStopTimer = some (us 30) ∧ seen t 0 = (.stop, some (us 50), true) ∧
      seen t 3 = (.stop, some (us 60), true) := by decide +kernel

/-- R1, R35, R36: the same entry half a decisecond off the phase of P3's end of GO, which lies 30.5 ds back, so that its
elapsed value is 30: V1's start timer counts 80 − 30 whole deciseconds from this entry, and T4's 90 − 30. -/
theorem test_clear_expiry_off_phase :
    let s := with1 (after (.stageDemand .l 3) (stage4 .localMode)) 2 fun r => { r with sinceGo := some 3050000 }
    let t := after (.clearTimerExpiry 2) (with1 s 1 fun r => { r with sinceGo := some (us 30), stateTimer := some 0 })
    seen t 0 = (.stop, some (us 50), true) ∧ seen t 3 = (.stop, some (us 60), true) ∧ t.clearanceNeed 3 = 60 := by
  decide +kernel

/-- V1 in PREPARE for stage 1 with its prepare time run out. -/
def prepared : State :=
  { running .localMode 1 { stopped with state := .prepare, stateTimer := some 0, gaining := true } stopped stopped stopped
    with arb := ⟨1, 0, false, none, some 1, none, none⟩ }

/-- R13, R14: V1 enters GO with the plan's min go of 100, and stage 1 is established. -/
theorem test_prepare_expiry :
    let t := after (.prepareTimerExpiry 1) prepared
    (t.grp 0).state = .go ∧ (t.grp 0).minGoTimer = some (us 100) ∧ t.arb.stable = true ∧ t.arb.current = 1 := by decide +kernel

/-- V1 in STOP, gaining for stage 1, with its start timer run out. -/
def gainer : State :=
  { running .localMode 1 { stopped with gaining := true, startTimer := some 0 } stopped stopped stopped
    with arb := ⟨1, 0, false, none, some 1, none, none⟩ }

/-- R12: V1 steps into PREPARE for its 20 ds. -/
theorem test_start_expiry :
    let t := after (.startTimerExpiry 1) gainer
    (t.grp 0).state = .prepare ∧ (t.grp 0).stateTimer = some (us 20) := by decide +kernel

/-- R15: V2 past min go and terminating begins CLEAR for 30 ds. -/
theorem test_min_go_expiry :
    let s := with1 (stage2 .localMode) 1 fun r =>
      { r with minGoLapsed := false, minGoTimer := some 0, terminating := true }
    let t := after (.minGoExpiry 2) s
    (t.grp 1).state = .clear ∧ (t.grp 1).stateTimer = some (us 30) ∧ (t.grp 1).sinceGo = some 0 := by decide +kernel

/-- 3.6: TAKE_CONTROL with stage 3 established holds the target and makes the demand absent. -/
theorem test_take_control :
    let t := after (.takeControl .c) (stage3 .localMode)
    t.mc.mode = .centralMode ∧ t.arb.target = 3 ∧ t.arb.demand = none ∧ t.groups = (stage3 .localMode).groups := by
  decide +kernel

/-- 5.8: STAGE_DEMAND from L in CENTRAL is refused with NOT_AUTHORITY (6) and refreshes L. -/
theorem test_demand_without_authority :
    let t := after (.stageDemand .l 2) (stage3 .centralMode)
    t.ports.l.response = [frame 0x86 [0x06]] ∧ t.arb.target = 3 ∧ t.mc.localTimer = some (us 50) := by decide +kernel

/-! ## The worked cases of 4.11 -/

/-- Time 0: tram 311 with travel 250 has slack 160 and waits with action timer 160. -/
theorem test_checkin_waits :
    let t := after (.callCheckin .t ⟨311, 4, 2, 250⟩) (stage2 .localMode)
    t.pu.calls = [{ tram311 with elapsed := 0, actionTimer := some (us 160) }] := by decide +kernel

/-- Time 160: the call is due; the record is {2, 2, –}, the target 3, V1's start timer 20, T4's 60. -/
theorem test_early_starts :
    let t := after (.actionTimerExpiry 311) (withCall (stage2 .localMode) tram311)
    (t.call? 311).map (·.state) = some .early ∧ t.pu.stack = [⟨2, some 2, none, none, none, false⟩] ∧ t.arb.target = 3 ∧
      seen t 0 = (.stop, some (us 20), true) ∧ seen t 3 = (.stop, some (us 60), true) ∧ (t.grp 1).state = .clear := by
  decide +kernel

/-- Time 55: the extension of tram 312 with T = 45 is granted: hold end 55 + 85, extension limit 55 + 150. -/
theorem test_extension_granted :
    let c := { tram311 with travel := 100, elapsed := us 55, state := .natural, actionTimer := none }
    let t := after (.stageDemand .l 2) { withCall (stage3 .localMode) c with now := us 55 }
    (t.grp 3).state = .go ∧ (t.grp 3).holdEnd = some (us 140) ∧ (t.call? 311).bind (·.extensionLimit) = some (us 205) ∧
      (t.grp 0).state = .clear := by decide +kernel

/-- Time 55 with travel 175: the need of 160 is above 150; EXT_REFUSED (bit 14) is posted and T4 begins CLEAR. -/
theorem test_extension_refused :
    let c := { tram311 with travel := 175, elapsed := us 55, state := .natural, actionTimer := none }
    let t := after (.stageDemand .l 2) { withCall (stage3 .localMode) c with now := us 55 }
    (t.grp 3).state = .clear ∧ t.ports.t.flags.getLsbD 14 = true ∧ (t.call? 311).bind (·.actionTimer) = some (us 50) := by
  decide +kernel

/-! ## Switching on and off -/

/-- 2.3: the worked junction passes validation; without the row of group 4, V2 fails at the pair (2, 4). -/
theorem test_validation :
    dark.validate = none ∧
      ({ dark with tables := { tables0 with matrix := tables0.matrix.set 3 (Vector.replicate 24 none) } }).validate =
        some { check := 2, item := .pair, first := 2, second := 4 } := by decide +kernel

/-- The worked junction in FLASH. -/
def flash : State :=
  { dark with
    groups := (dark.groups.set 0 { GroupRun.reset with state := .flash }).set 1 { GroupRun.reset with state := .flash },
    mc := { dark.mc with mode := .flash } }

/-- 5.3: SWITCH_ON in FLASH gives V1 CLEAR 40, V2 CLEAR 30, P3 and T4 STOP. -/
theorem test_switch_on_from_flash :
    let t := after (.switchOn .l) flash
    t.mc.mode = .startup ∧ (t.grp 0).stateTimer = some (us 40) ∧ (t.grp 1).stateTimer = some (us 30) ∧ (t.grp 2).state = .stop ∧
      (t.grp 3).state = .stop ∧ t.mc.startupRed = none ∧ t.mc.localTimer = some (us 50) := by decide +kernel

/-- The worked junction in STARTUP with every group in STOP and the startup red run out. -/
def startup : State :=
  { dark with
    groups := (((dark.groups.set 0 { stopped with sinceGo := none }).set 1 { stopped with sinceGo := none }).set 2
      { stopped with sinceGo := none }).set 3 { stopped with sinceGo := none },
    mc := { dark.mc with mode := .startup, startupRed := some 0, localAlive := true, localTimer := some (us 40) } }

/-- 5.3: at the startup red expiry V1's start timer is 0 and it enters PREPARE at once. -/
theorem test_startup_red_expiry :
    let t := after .startupRedExpiry startup
    t.mc.released = true ∧ t.arb.target = 1 ∧ (t.grp 0).state = .prepare := by decide +kernel

/-- 5.3: with L alive the established report of stage 1 ends STARTUP in LOCAL, with the stored demand 2 in force. -/
theorem test_startup_ends :
    let s := after .startupRedExpiry { startup with arb := { startup.arb with demand := some 2 } }
    let t := after (.prepareTimerExpiry 1) (with1 s 0 fun r => { r with stateTimer := some 0 })
    t.mc.mode = .localMode ∧ t.arb.target = 2 ∧ t.arb.current = 1 ∧ (t.grp 0).terminating = true := by decide +kernel

/-- R108: SWITCH_OFF in LOCAL closes to DARK; V1 past its min go begins CLEAR. -/
theorem test_switch_off :
    let t := after (.switchOff .l) (stage1 .localMode)
    t.mc.mode = .closing ∧ t.mc.closingDest = some .dark ∧ (t.grp 0).state = .clear ∧ t.arb.target = 0 := by
  decide +kernel

/-- 5.8: V1's and V2's greens sensed together a second time in a row make FAULT_FLASH, with the fault line active. -/
theorem test_conflict_fault :
    let s := stage3 .localMode
    let t := after (.lampSample 3) { s with lm := { s.lm with conflictRun := 1 } }
    t.mc.mode = .faultFlash ∧ t.mc.faultLine = true ∧ (t.grp 0).state = .flash ∧ (t.grp 3).state = .dark := by
  decide +kernel

/-! ## The standby cycle (6.5) -/

/-- Stage 2 established as a step of STANDBY at position 2. -/
def step2 : State :=
  { stage2 .standby with
    sb := { Standby.reset with stepIndex := 2, stepStage := some 2, established := true, restElapsed := us 100 } }

/-- Stage 2 with demand for V1, whose stage is next in the sequence. -/
def step2due : State := { step2 with det := { step2.det with demand := 1 } }

/-- 6.5: V2's max go reached with V1 waiting, the cycle steps to stage 1 at position 1. -/
theorem test_step_change :
    let t := after (.maxGoReached 2) (with1 step2due 1 fun r => { r with goElapsed := us 200 })
    t.sb.stepStage = some 1 ∧ t.sb.stepIndex = 1 ∧ t.sb.established = false ∧ t.arb.target = 1 ∧
      (t.grp 1).state = .clear := by decide +kernel

/-- 6.5: rest entry hands the rest stage, at the position of its first occurrence. -/
theorem test_rest_entry :
    let t := after .restDelayReached step2
    t.sb.atRest = true ∧ t.sb.stepIndex = 1 ∧ t.sb.stepStage = some 1 ∧ t.arb.target = 1 := by decide +kernel

/-! ## The detectors (7.4 to 7.6, 8.8) -/

/-- The worked junction with the loop channel in a state, and its record changed. -/
def loopAt (f : Channel → Channel) : State := { dark with chans := dark.chans.set 0 (f dark.chans[0]) }

/-- Channel 12 of 7.5: VACANT with B = 800,000 and S_on = 300. -/
def vacant (c : Channel) : Channel := { c with state := .vacant, baseline := some 800000, sensitivity := 300 }

/-- The record of the loop channel after a measurement. -/
def measured (f : Channel → Channel) (p : Option Nat) : Channel := (after (.loopVisitComplete 0 p) (loopAt f)).chans[0]

/-- 7.5, single judgements: P = 799,900 tracks to 799,994 and P = 800,480 retunes at once. -/
theorem test_loop_tracks :
    (measured vacant (some 799900)).baseline = some 799994 ∧ (measured vacant (some 799900)).lastD = 125 ∧
      (measured vacant (some 800480)).baseline = some 800480 := by decide +kernel

/-- 7.4: the third no oscillation in a row puts the channel in FAULT with class OPEN. -/
theorem test_loop_fault :
    let d := measured (fun c => { vacant c with faultRun := some (.openLoop, 2) }) none
    d.state = .fault ∧ d.fault = some .openLoop ∧ d.baseline = none := by decide +kernel

/-- The push button of 7.6 in a state, and its record changed. -/
def buttonAt (f : Channel → Channel) : State := { dark with chans := dark.chans.set 24 (f dark.chans[24]) }

/-- 7.6: the second closed sample in a row (K = 2) enters OCCUPIED and sets P3's latch. -/
theorem test_contact :
    let t := after (.contactSample 3 0xFE) (buttonAt fun c => { c with confirm := some (.occupied, 1) })
    t.chans[24].state = .occupied ∧ t.det.count[24] = 1 ∧ inSet 2 t.det.latch = true ∧ inSet 2 t.det.demand = true := by
  decide +kernel

/-- 7.6: at the presence limit of 60 s the button is STUCK. -/
theorem test_contact_stuck :
    let t := after (.contactSample 3 0xFE) (buttonAt fun c =>
      { c with state := .occupied, presence := 60, occupied := us 600 })
    t.chans[24].state = .fault ∧ t.chans[24].fault = some .stuck := by decide +kernel

/-- R1: a decisecond. -/
theorem test_decisecond :
    let t := after .decisecondElapsedRise (stage1 .localMode)
    t.now = 100000 ∧ (t.grp 0).goElapsed = us 241 ∧ (t.grp 1).sinceGo = some (us 401) ∧ t.mc.localTimer = some (us 39) := by
  decide +kernel

/-- R1: a spell of 60 ms adds nothing to the occupancy total, and 40 ms more of it add 1. -/
theorem test_spell_counts_whole_deciseconds :
    let s := after .decisecondElapsedRise
      { loopAt fun c => { vacant c with state := .occupied } with spans := [60000, 40000] }
    s.det.total[(0 : ChanId)] = 0 ∧ (after .decisecondElapsedRise s).det.total[(0 : ChanId)] = 1 := by
  decide +kernel

/-! ## What meets the hypotheses of each statement -/

/-- O1 to O4: an empty queue, the straps' bounds, a stage that is not 0, port C enabled, RESTART in DARK. -/
theorem test_witness_resets :
    State.reset.pending = [] ∧ (3 < 4 ∧ 15 < 16) ∧ (16 : StageId) ≠ 0 ∧
      (after (.hardwareReset 3 true 15) dark).portEnabled .c = true ∧
      dark.Takes .l .restart ∧ dark.mc.mode.isIdle = true ∧ (after (.restart .l) dark).portEnabled .c = true := by
  decide +kernel

/-- Port L's receiver in a state. -/
def receiving (rx : RxState) (toCome : Nat) : State :=
  State.reset.setPort .l { State.reset.ports.l with rx := rx, toCome := toCome }

/-- BytesMoveReceiver: each receive state with the counts at which its clauses meet, and a CRC that does not agree. -/
theorem test_witness_receiver :
    State.reset.portEnabled .l = true ∧ (receiving .hunt 0).ports.l.rx = .hunt ∧
      (receiving .length 0).ports.l.rx = .length ∧
      ((receiving .body 2).ports.l.rx = .body ∧ 2 ≤ (receiving .body 2).ports.l.toCome) ∧
      ((receiving .body 1).ports.l.rx = .body ∧ (receiving .body 1).ports.l.toCome = 1) ∧
      ((receiving .check 2).ports.l.rx = .check ∧ (receiving .check 2).ports.l.toCome = 2) ∧
      ((receiving .check 1).ports.l.rx = .check ∧ (receiving .check 1).ports.l.toCome = 1 ∧
        (0 : Byte) ++ (receiving .check 1).ports.l.crcLow ≠ (receiving .check 1).ports.l.crc) := by decide +kernel

/-- CrcTellsOneByte. -/
theorem test_witness_crc : (0 : Byte) ≠ 1 := by decide

/-- FrameDoesWhatRowDoes and EveryRequestIsAnswered: a write of a bank on port L. -/
theorem test_witness_frame :
    (Instr.writeBank .l ⟨3, 1, 512, 2⟩).wf = true ∧
      requestOf (.writeBank .l ⟨3, 1, 512, 2⟩) = some (.l, .writeBank, bankPayload ⟨3, 1, 512, 2⟩) ∧
      dark.portEnabled .l = true ∧ (dark.ports.get .l).rx = .hunt ∧ (dark.ports.get .l).toCome = 0 ∧
      (dark.ports.get .l).busy = false := by decide +kernel

/-- A state with port L's slot BUSY and a response in it. -/
def busyL (s : State) : State := s.answered .l .refresh .ok [[]]

/-- The worked junction with port C strapped off. -/
def withoutC : State := { dark with straps := { dark.straps with cen := false } }

/-- RequestsTurnedAway: a BUSY slot, a disabled port, a request that L's list does not hold. -/
theorem test_witness_turned_away :
    requestOf (.refresh .l) = some (.l, .refresh, []) ∧ (busyL dark).portEnabled .l = true ∧
      ((busyL dark).ports.get .l).busy = true ∧ requestOf (.refresh .c) = some (.c, .refresh, []) ∧
      withoutC.portEnabled .c = false ∧ requestOf (.takeControl .l) = some (.l, .takeControl, []) ∧
      dark.portEnabled .l = true ∧ (dark.ports.get .l).busy = false ∧ RequestKind.listed .takeControl .l = false := by
  decide +kernel

/-- TransmissionRuns: a response not yet sent, and one in sending. -/
theorem test_witness_transmission :
    ((busyL dark).ports.get .l).busy = true ∧ ((busyL dark).ports.get .l).sending = false ∧
      ((busyL dark).ports.get .l).response ≠ [] ∧
      ((after (.transmissionBegins .l) (busyL dark)).ports.get .l).sending = true := by decide +kernel

/-- PostReachesEnabledPorts and EventRequestsActOnOwnPort: both ends of the event sets. -/
theorem test_witness_events :
    dark.portEnabled .t = true ∧ withoutC.portEnabled .c = false ∧ dark.Takes .t .readEvents ∧
      dark.Takes .t .clearEvents ∧ dark.Takes .t .setEventMask ∧ (0x7FFFF : BitVec 32).toNat < 2 ^ 19 ∧
      2 ^ 19 ≤ (0x80000 : BitVec 32).toNat := by decide +kernel

/-- A conflict row with no conflict but for one entry. -/
def rowWith (n : Nat) : Vector Nat 24 := (Vector.replicate 24 255).set 23 n

/-- WriteConflictRowStores: running, an ill group or entry, and the ends of the ranges. -/
theorem test_witness_conflict_row :
    ((stage1 .localMode).Takes .l .writeConflictRow ∧ (stage1 .localMode).mc.mode.isIdle = false) ∧
      dark.Takes .l .writeConflictRow ∧ dark.mc.mode.isIdle = true ∧ (¬(1 ≤ 0 ∧ 0 ≤ 24)) ∧ (¬(1 ≤ 25 ∧ 25 ≤ 24)) ∧
      (∀ n ∈ [251, 254], ∃ g : Fin 24, 250 < (rowWith n)[g] ∧ (rowWith n)[g] ≠ 255) ∧
      ∀ n ∈ [0, 250, 255], ∀ g : Fin 24, (rowWith n)[g] ≤ 250 ∨ (rowWith n)[g] = 255 := by decide +kernel

/-- WriteStageStores. -/
theorem test_witness_stage :
    (stage1 .localMode).Takes .l .writeStage ∧ (stage1 .localMode).mc.mode.isIdle = false ∧ dark.Takes .l .writeStage ∧
      (∀ n ∈ [0, 17], ¬(1 ≤ n ∧ n ≤ 16)) ∧ 1 < 2 ∧ 2 ^ 24 ≤ (0x1000000 : BitVec 32).toNat ∧
      (0xFFFFFF : BitVec 32).toNat < 2 ^ 24 := by decide +kernel

/-- WriteGroupStores: a record of each kind at the ends of its ranges, and one beyond each end. -/
theorem test_witness_group :
    dark.Takes .l .writeGroup ∧ dark.mc.mode.isIdle = true ∧ dark.IdleQuiet ∧ flash.IdleQuiet ∧
      ([⟨.vehicle, 30, 0, 0, false⟩, ⟨.vehicle, 60, 30, 100, true⟩, ⟨.pedestrian, 200, 0, 100, false⟩,
        ⟨.tram, 20, 0, 0, false⟩].all fun c : GroupConfig =>
          c.kind ≠ .unused && c.kind.timesFit c.clearTime c.prepareTime c.minStop) = true ∧
      (let w : GroupWrite := ⟨24, 0, 255, 255, 255, 1⟩;
        w.kind = 0 ∧ w.group = (23 : GroupId).val + 1 ∧ w.redMonitored ≤ 1) ∧
      ((stage1 .localMode).Takes .l .writeGroup ∧ (stage1 .localMode).mc.mode.isIdle = false) := by decide +kernel

/-- WriteGroupStores: a field beyond each range. -/
theorem test_witness_group_out_of_range :
    ∀ w ∈ ([⟨0, 1, 30, 0, 0, 0⟩, ⟨25, 1, 30, 0, 0, 0⟩, ⟨1, 4, 30, 0, 0, 0⟩, ⟨1, 1, 30, 0, 0, 2⟩, ⟨1, 1, 29, 0, 0, 0⟩,
          ⟨1, 1, 30, 31, 0, 0⟩, ⟨1, 2, 201, 0, 0, 0⟩, ⟨1, 2, 200, 1, 0, 0⟩, ⟨1, 3, 61, 0, 0, 0⟩] : List GroupWrite),
        ¬(1 ≤ w.group ∧ w.group ≤ 24) ∨ 3 < w.kind ∨ 1 < w.redMonitored ∨
        (w.kind = 1 ∧ ¬(30 ≤ w.clearTime ∧ w.clearTime ≤ 60 ∧ w.prepareTime ≤ 30 ∧ w.minStop ≤ 100)) ∨
        (w.kind = 2 ∧ ¬(w.clearTime ≤ 200 ∧ w.prepareTime = 0 ∧ w.minStop ≤ 100)) ∨
        (w.kind = 3 ∧ ¬(20 ≤ w.clearTime ∧ w.clearTime ≤ 60 ∧ w.prepareTime = 0 ∧ w.minStop ≤ 100)) := by decide +kernel

/-- The junction record of 2.6 with another start stage. -/
def junction2 : Junction := { tables0.junction with startStage := 2 }

/-- The junction record of 2.6 without its permission. -/
def junctionNone : Junction := { tables0.junction with permission := .none }

/-- WriteJunctionStores: a record with another start stage, and the fall-through of permission NONE written in CENTRAL. -/
theorem test_witness_junction :
    (dark.Takes .l .writeJunction ∧ junctionRecord? junction2.asWrite = some junction2 ∧ dark.mc.mode.isIdle = true ∧
        ¬(junction2.permission = .none ∧ dark.mc.mode = .centralMode)) ∧
      ((stage1 .localMode).Takes .l .writeJunction ∧ (stage1 .localMode).mc.mode.isIdle = false ∧
        junction2.startStage ≠ (stage1 .localMode).tables.junction.startStage) ∧
      (junctionRecord? junctionNone.asWrite = some junctionNone ∧ (stage1 .centralMode).Takes .l .writeJunction ∧
        junctionNone.sameStages (stage1 .centralMode).tables.junction = true ∧ junctionNone.permission = .none ∧
        (stage1 .centralMode).mc.mode = .centralMode ∧ (stage1 .centralMode).Undisturbed) := by decide +kernel

/-- WriteJunctionStores: a field beyond each range. -/
theorem test_witness_junction_out_of_range :
    ∀ w ∈ [{ junctionWrite with startStage := 17 }, { junctionWrite with restStage := 17 },
          { junctionWrite with priority := junctionWrite.priority.set 23 17 }, { junctionWrite with seqLength := 17 },
          { junctionWrite with seqLength := 16, seq := junctionWrite.seq.set 15 17 },
          { junctionWrite with permission := 3 }, { junctionWrite with localTime := 9 },
          { junctionWrite with centralPeriod := 601 }, { junctionWrite with startupRed := 29 },
          { junctionWrite with closingRed := 101 }, { junctionWrite with standbyPlan := 4 },
          { junctionWrite with flasherRate := 51 }],
      16 < w.startStage ∨ 16 < w.restStage ∨ (∃ g : Fin 24, 16 < w.priority[g]) ∨ 16 < w.seqLength ∨
        (∃ n : Fin 16, n.val < w.seqLength ∧ 16 < w.seq[n]) ∨ 2 < w.permission ∨
        ¬(10 ≤ w.localTime ∧ w.localTime ≤ 100) ∨ ¬(10 ≤ w.centralPeriod ∧ w.centralPeriod ≤ 600) ∨
        ¬(30 ≤ w.startupRed ∧ w.startupRed ≤ 100) ∨ ¬(30 ≤ w.closingRed ∧ w.closingRed ≤ 100) ∨ 3 < w.standbyPlan ∨
        (w.flasherRate ≠ 40 ∧ w.flasherRate ≠ 50 ∧ w.flasherRate ≠ 60) := by decide +kernel

/-- WriteOutputStores, ForceOutputPlaces. -/
theorem test_witness_outputs :
    dark.Takes .l .writeOutput ∧ dark.mc.mode.isIdle = true ∧ (stage1 .localMode).Takes .l .writeOutput ∧
      (stage1 .localMode).mc.mode.isIdle = false ∧ dark.Takes .l .forceOutput ∧ dark.mc.mode = .dark ∧
      flash.Takes .l .forceOutput ∧ flash.mc.mode ≠ .dark ∧ (∀ n ∈ [0, 73], ¬(1 ≤ n ∧ n ≤ 72)) ∧ 2 < 3 := by
  decide +kernel

/-- WriteOutputStores: a field beyond each range. -/
theorem test_witness_output_out_of_range :
    ∀ w ∈ ([⟨0, 0, 0, 0, 0⟩, ⟨73, 0, 0, 0, 0⟩, ⟨1, 7, 0, 0, 0⟩, ⟨1, 0, 0, 0, 2⟩, ⟨1, 2, 0, 0, 0⟩, ⟨1, 5, 25, 0, 0⟩,
          ⟨1, 2, 24, 3, 0⟩, ⟨1, 6, 33, 0, 0⟩] : List OutputWrite),
        ¬(1 ≤ w.channel ∧ w.channel ≤ 72) ∨ 6 < w.source ∨ 1 < w.polarity ∨
          ((w.source = 2 ∨ w.source = 5) ∧ ¬(1 ≤ w.arg ∧ w.arg ≤ 24)) ∨ (w.source = 2 ∧ 2 < w.role) ∨
          (w.source = 6 ∧ ¬(1 ≤ w.arg ∧ w.arg ≤ 32)) := by decide +kernel

/-- WriteDetectorStores: the ends of the ranges, in DARK and, with another configuration, in LOCAL, and a change of the enabled
field. -/
theorem test_witness_detector :
    let d : DetectorConfig := { tables0.detectors[0] with demandSet := 3, stretch := 100 }
    d.stretch ≤ 100 ∧ (∀ n ∈ [20, 20000], 20 ≤ n ∧ n ≤ 20000) ∧
      (∀ n ∈ [0, 10, 3600], n = 0 ∨ 10 ≤ n ∧ n ≤ 3600) ∧ dark.Takes .l .writeDetector ∧ dark.mc.mode.isIdle = true ∧
      (stage1 .localMode).Takes .l .writeDetector ∧ (stage1 .localMode).mc.mode.isIdle = false ∧
      (stage1 .localMode).tables.detectors[0].sameConfig d = false ∧
      (stage1 .localMode).tables.detectors[0].sameConfig tables0.detectors[0] = true ∧
      { d with enabled := false }.enabled ≠ dark.tables.detectors[0].enabled := by decide +kernel

/-- WriteDetectorStores: a field beyond each range. -/
theorem test_witness_detector_out_of_range :
    ∀ w ∈ [{ detectorWrite with channel := 0 }, { detectorWrite with channel := 33 }, { detectorWrite with enabled := 2 },
          { detectorWrite with demandSet := 0x1000000 }, { detectorWrite with extensionSet := 0x1000000 },
          { detectorWrite with demandType := 2 }, { detectorWrite with activity := 2 },
          { detectorWrite with substitution := 2 }, { detectorWrite with stretch := 101 },
          { detectorWrite with sensitivity := 19 }, { detectorWrite with sensitivity := 20001 },
          { detectorWrite with presence := 9 }, { detectorWrite with presence := 3601 }],
      ¬(1 ≤ w.channel ∧ w.channel ≤ 32) ∨ 1 < w.enabled ∨ 2 ^ 24 ≤ w.demandSet.toNat ∨ 2 ^ 24 ≤ w.extensionSet.toNat ∨
      1 < w.demandType ∨ 1 < w.activity ∨ 1 < w.substitution ∨ 100 < w.stretch ∨ w.sensitivity < 20 ∨
      20000 < w.sensitivity ∨ (w.presence ≠ 0 ∧ w.presence < 10) ∨ 3600 < w.presence := by decide +kernel

/-- WriteBankStores: bank A restarts with another Nc, and with the other mode; only K changes; nothing changes; a bank
without an enabled channel; and a field beyond each range. -/
theorem test_witness_bank :
    (dark.bank 0 = ⟨.loop, 512, 2⟩ ∧ (dark.bank 3).mode = .contact) ∧
      (∀ c ∈ ([⟨.loop, 256, 2⟩, ⟨.loop, 1024, 4⟩, ⟨.contact, 512, 1⟩] : List BankConfig),
        c.mode ≠ (dark.bank 0).mode ∨ (c.mode = .loop ∧ c.nc ≠ (dark.bank 0).nc)) ∧
      (∀ c ∈ ([⟨.loop, 512, 3⟩, ⟨.loop, 512, 2⟩] : List BankConfig),
        ¬(c.mode ≠ (dark.bank 0).mode ∨ (c.mode = .loop ∧ c.nc ≠ (dark.bank 0).nc))) ∧
      (bankOf 0 = 0 ∧ dark.chanEnabled 0 = true ∧ (∀ i, bankOf i = 0 → dark.chanEnabled i = true → 0 ≤ i)) ∧
      (bankOf 1 = 0 ∧ dark.chanEnabled 1 = false) ∧ (∀ ch, bankOf ch = 1 → dark.chanEnabled ch = false) ∧
      ∀ w ∈ ([⟨4, 0, 512, 1⟩, ⟨0, 2, 512, 1⟩, ⟨0, 0, 513, 1⟩, ⟨0, 0, 512, 0⟩, ⟨0, 0, 512, 5⟩] : List BankWrite),
        3 < w.bank ∨ 1 < w.mode ∨ (w.nc ≠ 256 ∧ w.nc ≠ 512 ∧ w.nc ≠ 1024) ∨ ¬(1 ≤ w.k ∧ w.k ≤ 4) := by decide +kernel

/-- WriteBankStores and WritePlanStores: the ends of the ranges, the active plan, a plan that does not fit. -/
theorem test_witness_bank_and_plan :
    (stage1 .localMode).Takes .l .writeBank ∧ (stage1 .localMode).mc.mode.isIdle = false ∧ dark.Takes .l .writeBank ∧
      (∀ k ∈ [1, 4], 1 ≤ k ∧ k ≤ 4) ∧ dark.Takes .l .writePlan ∧ 3 < { planWrite with plan := 4 }.plan ∧
      (0 : PlanId) = dark.mc.activePlan ∧ (3 : PlanId) ≠ dark.mc.activePlan ∧ (3 : PlanId) ≠ dark.mc.pendingPlan ∧
      (∀ g : Fin 24, 30 ≤ plan0.minGo[g] ∧ plan0.minGo[g] ≤ 600 ∧ plan0.minGo[g] ≤ plan0.maxGo[g] ∧
        plan0.maxGo[g] ≤ 1800) ∧
      (plan0.margin ≤ 100 ∧ 10 ≤ plan0.passage ∧ plan0.passage ≤ 100 ∧ plan0.maxExt ≤ 300 ∧ plan0.recovery ≤ 1200 ∧
        100 ≤ plan0.callTimeout ∧ plan0.callTimeout ≤ 3000 ∧ 50 ≤ plan0.restDelay ∧ plan0.restDelay ≤ 6000) ∧
      ¬({ plan0 with margin := 101 }.margin ≤ 100) := by decide +kernel

/-- ReadTableReturnsEntry: the last entry of each table, and the first index beyond it. -/
theorem test_witness_read_table :
    dark.Takes .l .readTable ∧ 24 = (23 : GroupId).val + 1 ∧ 16 = (16 : StageId).val ∧ 72 = (71 : OutId).val + 1 ∧
      32 = (31 : ChanId).val + 1 ∧ 3 = (3 : BankId).val ∧ 3 = (3 : PlanId).val ∧ 7 < 8 ∧ ¬(1 ≤ 25 ∧ 25 ≤ 24) ∧
      16 < 17 ∧ ¬(1 ≤ 0 ∧ 0 ≤ 72) ∧ ¬(1 ≤ 33 ∧ 33 ≤ 32) ∧ 3 < 4 := by decide +kernel

/-- ReadsBackWhatWasWritten: accepted writes of a row, a detector, a bank and a plan. -/
theorem test_witness_read_back :
    ((Instr.writeConflictRow .l 24 (rowWith 250)).wf = true ∧ 24 = (23 : GroupId).val + 1 ∧
        dark.Takes .l .writeConflictRow ∧
        (after (.writeConflictRow .l 24 (rowWith 250)) dark).Responds .l .writeConflictRow .ok) ∧
      (detectorWrite.wf = true ∧ detectorWrite.channel = (0 : ChanId).val + 1 ∧ dark.Takes .l .writeDetector ∧
        (after (.writeDetector .l detectorWrite) dark).Responds .l .writeDetector .ok) ∧
      (BankWrite.wf ⟨3, 1, 1024, 4⟩ = true ∧ 3 = (3 : BankId).val ∧ dark.Takes .l .writeBank ∧
        (after (.writeBank .l ⟨3, 1, 1024, 4⟩) dark).Responds .l .writeBank .ok) ∧
      (planWrite.wf = true ∧ planWrite.plan = (3 : PlanId).val ∧ dark.Takes .l .writePlan ∧
        (after (.writePlan .l planWrite) dark).Responds .l .writePlan .ok) := by decide +kernel

/-- ReadsReturnRunningRecords. -/
theorem test_witness_reads :
    dark.Takes .t .readStatus ∧ dark.Takes .t .readCalls ∧ dark.Takes .c .readDetectors ∧ dark.Takes .c .readCounts ∧
      withoutC.straps.cen = false ∧ withoutC.Takes .l .readCounts ∧ dark.Takes .l .readCounts ∧
      dark.straps.cen = true ∧ (dark.ports.get .t).busy = false := by decide +kernel

/-- SwitchOnStartsUp from L in DARK. -/
theorem test_witness_switch_on_dark :
    dark.Takes .l .switchOn ∧ dark.RightOfWay ∧ dark.CallsFit ∧ dark.ForcesFit ∧ dark.validate = none ∧
      dark.mc.mode = .dark :=
  ⟨by decide +kernel, by and_intros <;> decide +kernel, by decide +kernel, by decide +kernel, test_validation.1,
    by decide +kernel⟩

/-- SwitchOnStartsUp from C in FLASH with permission FULL. -/
theorem test_witness_switch_on_flash :
    flash.Takes .c .switchOn ∧ flash.RightOfWay ∧ flash.CallsFit ∧ flash.ForcesFit ∧ flash.validate = none ∧
      flash.mc.mode = .flash ∧ flash.tables.junction.permission = .full :=
  ⟨by decide +kernel, by and_intros <;> decide +kernel, by decide +kernel, by decide +kernel, test_validation.1,
    by decide +kernel, by decide +kernel⟩

/-- The worked junction without its permission. -/
def unpermitted (s : State) : State :=
  { s with tables := { s.tables with junction := { s.tables.junction with permission := .none } } }

/-- SwitchOnRefuses. -/
theorem test_witness_switch_on_refused :
    ((unpermitted dark).Takes .c .switchOn ∧ (unpermitted dark).tables.junction.permission ≠ .full) ∧
      ((stage1 .localMode).Takes .l .switchOn ∧ (stage1 .localMode).mc.mode ≠ .dark ∧
        (stage1 .localMode).mc.mode ≠ .flash) ∧
      (dark.Takes .c .switchOn ∧ dark.tables.junction.permission = .full ∧ dark.mc.mode ≠ .flash) ∧
      (dark.ports.get .t).busy = false ∧
      ∃ f, { dark with tables := { tables0 with matrix := tables0.matrix.set 3 (Vector.replicate 24 none) } }.validate =
        some f :=
  ⟨by decide +kernel, by decide +kernel, by decide +kernel, by decide +kernel, _, test_validation.2⟩

/-- SwitchingOffCloses and SwitchingOutsideRunning: each mode they name. -/
theorem test_witness_switching :
    ((stage1 .localMode).Takes .l .switchFlash ∧ (stage1 .centralMode).Takes .c .switchFlash ∧
        (stage1 .centralMode).tables.junction.permission = .full ∧ (stage1 .standby).Takes .l .switchOff ∧
        startup.Takes .l .switchOff ∧ (stage1 .closing).Takes .l .switchOff ∧ (stage1 .closing).mc.mode = .closing ∧
        (prepared.grp 0).state = .prepare) ∧
      (dark.Takes .l .switchFlash ∧ dark.mc.mode = .dark ∧ dark.IdleQuiet ∧ dark.CallsFit) ∧
      (flash.Takes .l .switchFlash ∧ flash.mc.mode = .flash ∧ flash.Takes .l .switchOff ∧ flash.IdleQuiet ∧
        flash.CallsFit) ∧
      (dark.Takes .c .switchFlash ∧ dark.tables.junction.permission = .full) ∧
      ((unpermitted flash).Takes .c .switchFlash ∧ (unpermitted flash).tables.junction.permission ≠ .full) ∧
      ({ flash with mc := { flash.mc with mode := .faultFlash } }.Takes .l .switchOff) := by
  and_intros <;> decide +kernel

/-- The worked junction in FAULT_FLASH. -/
def faulted : State := { flash with mc := { flash.mc with mode := .faultFlash, faultLine := true } }

/-- FaultResetReturnsToFlash. -/
theorem test_witness_fault_reset :
    (faulted.Takes .l .faultReset ∧ faulted.mc.mode = .faultFlash ∧ faulted.lm.latestConflict = false ∧
        faulted.IdleQuiet ∧ faulted.CallsFit) ∧
      (flash.Takes .l .faultReset ∧ flash.mc.mode ≠ .faultFlash) ∧
      (Port.c ≠ .l ∧ dark.portEnabled .c = true ∧ (dark.ports.get .c).busy = false) := by decide +kernel

/-- StageDemandNamesTarget. -/
theorem test_witness_stage_demand :
    ((stage1 .localMode).Takes .l .stageDemand ∧ (stage1 .centralMode).Takes .c .stageDemand ∧
        (stage1 .centralMode).tables.junction.permission ≠ .none ∧ (stage1 .localMode).configured 4 = true ∧
        (stage1 .localMode).Undisturbed ∧ (stage1 .centralMode).Undisturbed ∧ (stage1 .standby).Undisturbed ∧
        (stage1 .localMode).arb.modeTarget = none ∧ (stage1 .standby).mc.mode = .standby) ∧
      (startup.Takes .l .stageDemand ∧ startup.mc.mode = .startup ∧ startup.configured 4 = true ∧
        startup.arb.modeTarget = some startup.arb.target) ∧
      ((unpermitted dark).Takes .c .stageDemand ∧ (unpermitted dark).tables.junction.permission = .none) ∧
      (demandAuthority .l .localMode = true ∧
        ∀ n ∈ [5, 17], ∀ u : StageId, u.val = n → (stage1 .localMode).configured u = false) ∧
      (demandAuthority .l .centralMode = false ∧ Mode.centralMode.isIdle = false) ∧
      dark.Takes .l .stageDemand ∧ dark.mc.mode.isIdle = true := by decide +kernel

/-- RefreshAndSelectPlan. -/
theorem test_witness_refresh :
    ((stage1 .localMode).Takes .l .refresh ∧ (stage1 .localMode).mc.mode.isIdle = false) ∧
      ((stage1 .localMode).Takes .c .refresh ∧ (stage1 .localMode).tables.junction.permission ≠ .none) ∧
      (dark.Takes .l .refresh ∧ dark.mc.mode.isIdle = true) ∧
      ((unpermitted dark).Takes .c .refresh ∧ (unpermitted dark).tables.junction.permission = .none) ∧
      ((stage1 .localMode).Takes .l .selectPlan ∧ (stage1 .centralMode).Takes .c .selectPlan ∧ 3 < 4 ∧
        3 = (3 : PlanId).val ∧ (stage1 .standby).mc.mode = .standby) ∧
      (dark.ports.get .t).busy = false := by decide +kernel

/-- TakingAuthorityHoldsTarget. -/
theorem test_witness_authority :
    (stage3 .centralMode).Undisturbed ∧ (stage3 .centralMode).Takes .l .localReclaim ∧
      (stage3 .localMode).Takes .l .localReclaim ∧ (stage3 .standby).Takes .l .localReclaim ∧
      (unpermitted (stage3 .localMode)).Takes .c .takeControl ∧
      (unpermitted (stage3 .localMode)).tables.junction.permission = .none ∧ (stage3 .localMode).Takes .c .takeControl ∧
      (stage3 .localMode).tables.junction.permission ≠ .none ∧ (stage3 .standby).Undisturbed ∧ dark.Undisturbed ∧
      dark.Takes .c .takeControl := by decide +kernel

/-- A state whose supervision timers have run out. -/
def lapsing (s : State) : State := { s with mc := { s.mc with localTimer := some 0, centralTimer := some 0 } }

/-- GivingUpAuthorityFallsThrough. -/
theorem test_witness_giving_up :
    ((stage3 .centralMode).Undisturbed ∧ (stage3 .centralMode).work.isIdle = true ∧
        (stage3 .centralMode).Takes .c .releaseControl ∧ (stage3 .centralMode).tables.junction.permission ≠ .none) ∧
      ((unpermitted dark).Undisturbed ∧ (unpermitted dark).Takes .c .releaseControl) ∧
      ((lapsing (stage3 .centralMode)).Undisturbed ∧ (lapsing (stage3 .centralMode)).mc.centralTimer = some 0) ∧
      ((lapsing (stage3 .localMode)).Undisturbed ∧ (lapsing (stage3 .localMode)).mc.localTimer = some 0 ∧
        (lapsing (stage3 .localMode)).work.isIdle = true) ∧
      (lapsing (stage3 .localMode)).mc.mode ≠ .centralMode ∧ (lapsing (stage3 .centralMode)).mc.mode ≠ .localMode ∧
      (stage3 .localMode).mc.localTimer ≠ some 0 ∧ (stage3 .localMode).mc.centralTimer ≠ some 0 := by decide +kernel

/-- STARTUP with V1's min stop still running at the startup red expiry. -/
def startupStopping : State := with1 startup 0 fun r => { r with minStopTimer := some 1 }

/-- STARTUP with start stage 0. -/
def startupDark : State :=
  { startup with tables := { tables0 with junction := { tables0.junction with startStage := 0 } } }

/-- STARTUP with the start stage released and V1, its one group, about to enter GO. -/
def startupEnding : State :=
  { startup with
    groups := startup.groups.set 0
      { GroupRun.reset with state := .prepare, stateTimer := some 0, gaining := true },
    arb := ⟨1, 0, false, none, none, some 1, none⟩, mc := { startup.mc with startupRed := none, released := true } }

/-- V2 red-monitored, with a STOP-role channel that is LAMP_OUT and its red-out flag set. -/
def redLostIn (s : State) : State :=
  { s with
    tables := { s.tables with
      groups := s.tables.groups.set 1 ⟨.vehicle, 30, 20, 30, true⟩
      outputs := s.tables.outputs.set 3 ⟨.groupRole 1 .stop, false⟩ },
    lm := { s.lm with lamps := s.lm.lamps.set 3 { s.lm.lamps[3] with status := .lampOut }, redOut := 2 } }

/-- StartupRedReleasesStage: what every clause asks of the state, in each of these states. -/
theorem test_witness_startup :
    ∀ s ∈ [startup, startupStopping, startupDark, startupEnding, redLostIn startupDark, redLostIn startupEnding],
      s.CallsFit ∧ s.work.isIdle = true ∧ s.mc.mode = .startup ∧ s.kind 0 ≠ .unused := by decide +kernel

/-- StartupRedReleasesStage: V1 of the start stage, with min stop still running and lapsed, and an expiry not due. -/
theorem test_witness_startup_red :
    (startupStopping.RightOfWay ∧ startup.RightOfWay) ∧
      (startup.mc.startupRed = some 0 ∧ startup.tables.junction.startStage ≠ 0 ∧
        (∀ c, inSet c (startup.stageSet startup.tables.junction.startStage) = true → startup.intergreen c 0 = none) ∧
        inSet 0 (startup.stageSet startup.tables.junction.startStage) = true) ∧
      (startupStopping.mc.startupRed = some 0 ∧ (startupStopping.grp 0).minStopTimer = some (0 + 1)) ∧
      ((startup.grp 0).minStopTimer.getD 0 = 0 ∧ (∀ c, (startup.grp c).sinceGo = none) ∧ startup.kind 0 = .vehicle ∧
        (startup.cfg 0).prepareTime ≠ 0) ∧
      startupEnding.mc.startupRed ≠ some 0 := by
  and_intros <;> decide +kernel

/-- StartupRedReleasesStage: start stage 0, and the last group of the start stage, with no red-out and with V2's. -/
theorem test_witness_startup_ends :
    (startupDark.RightOfWay ∧ startupDark.mc.startupRed = some 0 ∧ startupDark.tables.junction.startStage = 0 ∧
        startupDark.arb.stable = true ∧ startupDark.lm.redOut = 0) ∧
      (startupEnding.RightOfWay ∧ startupEnding.mc.released = true ∧ startupEnding.arb.stable = false ∧
        (startupEnding.grp 0).state = .prepare ∧ (startupEnding.grp 0).stateTimer = some 0 ∧
        (∀ h, h ≠ 0 → if inSet h (startupEnding.stageSet startupEnding.arb.target) = true
          then (startupEnding.grp h).state = .go
          else (startupEnding.grp h).state ≠ .go ∧ (startupEnding.grp h).state ≠ .prepare ∧
            (startupEnding.grp h).state ≠ .clear) ∧
        inSet 0 (startupEnding.stageSet startupEnding.arb.target) = true ∧ startupEnding.NoRedOut) := by
  and_intros <;> decide +kernel

/-- StartupRedReleasesStage: the same two with the red of V2, which is red-monitored, lost. -/
theorem test_witness_startup_red_lost :
    let z := redLostIn startupDark
    let s := redLostIn startupEnding
    (z.RightOfWay ∧ z.mc.startupRed = some 0 ∧ z.tables.junction.startStage = 0 ∧ z.arb.stable = true ∧
        inSet 1 z.lm.redOut = true ∧ z.redLost 1 = true) ∧
      (s.RightOfWay ∧ s.mc.released = true ∧ s.arb.stable = false ∧ (s.grp 0).state = .prepare ∧
        (s.grp 0).stateTimer = some 0 ∧ inSet 0 (s.stageSet s.arb.target) = true ∧
        (∀ h, h ≠ 0 → if inSet h (s.stageSet s.arb.target) = true then (s.grp h).state = .go
          else (s.grp h).state ≠ .go ∧ (s.grp h).state ≠ .prepare ∧ (s.grp h).state ≠ .clear) ∧
        inSet 1 s.lm.redOut = true ∧ s.redLost 1 = true ∧ s.mc.localAlive = true) := by
  and_intros <;> decide +kernel

/-- The worked junction closing to FLASH, with the closing red run out. -/
def closing : State :=
  { startup with mc := { dark.mc with mode := .closing, closingRed := some 0, closingDest := some .flash } }

/-- ClosingRedEndsClosing. -/
theorem test_witness_closing_red :
    closing.RightOfWay ∧ closing.CallsFit ∧ closing.work.isIdle = true ∧ closing.mc.mode = .closing ∧
      closing.mc.closingRed = some 0 ∧ closing.mc.closingDest = some .flash := by
  and_intros <;> decide +kernel

/-- No term of a group's gaining rule is left, judged pair by pair. -/
theorem no_term_left (s : State) (g : GroupId) (q : Nat)
    (h : ∀ c, ((s.intergreen c g).bind fun i => (s.grp c).sinceGo.map fun e => decide (i ≤ wholeDs e + q)) ≠ some false) :
    ∀ c i e, s.intergreen c g = some i → (s.grp c).sinceGo = some e → i ≤ wholeDs e + q := by
  intro c i e hi he
  simpa [hi, he] using h c

/-- T4 in STOP, gaining for stage 3, with its start timer run out. -/
def tramGainer : State :=
  { running .localMode 3 (going 100) stopped stopped { stopped with gaining := true, startTimer := some 0 }
    with arb := ⟨3, 1, false, none, some 3, none, none⟩ }

/-- GroupsStepTowardGo: V1 in PREPARE, V1 and T4 gaining where the rule holds, and V1 where min stop still runs. -/
theorem test_witness_toward_go :
    (prepared.PlainRunning ∧ (prepared.grp 0).state = .prepare ∧ (prepared.grp 0).stateTimer = some 0) ∧
      (gainer.PlainRunning ∧ (gainer.grp 0).state = .stop ∧ (gainer.grp 0).gaining = true ∧
        (gainer.grp 0).startTimer = some 0 ∧ (gainer.cfg 0).prepareTime ≠ 0) ∧
      (tramGainer.PlainRunning ∧ (tramGainer.grp 3).state = .stop ∧ (tramGainer.grp 3).gaining = true ∧
        (tramGainer.grp 3).startTimer = some 0 ∧ tramGainer.kind 3 ≠ .vehicle) ∧
      (prepared.grp 0).startTimer ≠ some 0 ∧ (gainer.grp 0).stateTimer ≠ some 0 ∧
      ((with1 gainer 0 fun r => { r with minStopTimer := some 1 }).grp 0).minStopTimer.getD 0 ≠ 0 := by decide +kernel

/-- GroupsStepTowardGo: the gaining rule of V1 and of T4 in those states. -/
theorem test_witness_gaining_rule :
    (∀ c, (gainer.intergreen c 0).isSome = true → (gainer.grp c).state ≠ .go ∧ (gainer.grp c).state ≠ .prepare) ∧
      (∀ c i e, gainer.intergreen c 0 = some i → (gainer.grp c).sinceGo = some e → i ≤ wholeDs e + 20) ∧
      (gainer.grp 0).minStopTimer.getD 0 = 0 ∧
      (∀ c, (tramGainer.intergreen c 3).isSome = true →
        (tramGainer.grp c).state ≠ .go ∧ (tramGainer.grp c).state ≠ .prepare) ∧
      (∀ c i e, tramGainer.intergreen c 3 = some i → (tramGainer.grp c).sinceGo = some e → i ≤ wholeDs e + 0) ∧
      (tramGainer.grp 3).minStopTimer.getD 0 = 0 :=
  ⟨by decide +kernel, no_term_left _ _ _ (by decide +kernel), by decide +kernel, by decide +kernel,
    no_term_left _ _ _ (by decide +kernel), by decide +kernel⟩

/-- V1 in GO and terminating, with min go and a hold end of its own. -/
def leaving (minGo : Option Nat) (lapsed : Bool) (hold : Option Nat) : State :=
  { with1 (stage1 .localMode) 0 fun r =>
      { r with minGoTimer := minGo, minGoLapsed := lapsed, terminating := true, holdEnd := hold }
    with now := 140 }

/-- V1 in CLEAR with its clear time run out, with another stage as the target and with its own. -/
def clearing (st : StageId) : State :=
  { running .localMode st { stopped with state := .clear, stateTimer := some 0 } stopped stopped stopped
    with arb := ⟨st, 2, false, none, some st, none, none⟩ }

/-- GroupsGiveUpGo: each clause, the hold end at the moment it is reached and one microsecond before. -/
theorem test_witness_give_up_go :
    ((leaving (some 0) false none).PlainRunning ∧ ((leaving (some 0) false none).grp 0).minGoTimer = some 0 ∧
        ((leaving (some 0) false none).grp 0).holdEnd = none ∧ ((leaving (some 0) false none).grp 0).state = .go ∧
        ((leaving (some 0) false none).grp 0).terminating = true ∧ ((leaving (some 0) false none).cfg 0).clearTime ≠ 0) ∧
      ((leaving none true (some 140)).PlainRunning ∧ ((leaving none true (some 140)).grp 0).holdEnd = some 140 ∧
        140 ≤ (leaving none true (some 140)).now ∧ ((leaving none true (some 140)).grp 0).minGoLapsed = true) ∧
      ((leaving none false (some 140)).grp 0).minGoLapsed = false ∧ (leaving none true (some 141)).now < 141 ∧
      ((clearing 2).PlainRunning ∧ ((clearing 2).grp 0).state = .clear ∧ ((clearing 2).grp 0).stateTimer = some 0 ∧
        ((clearing 2).grp 0).pendingOrder = none ∧ inSet 0 ((clearing 2).stageSet (clearing 2).arb.target) = false) ∧
      ((clearing 1).PlainRunning ∧ inSet 0 ((clearing 1).stageSet (clearing 1).arb.target) = true ∧
        ((clearing 1).cfg 0).minStop ≠ 0) ∧
      ((with1 gainer 0 fun r => { r with minStopTimer := some 0 }).grp 0).minStopTimer = some 0 ∧
      ((clearing 1).grp 0).minGoTimer ≠ some 0 ∧ (gainer.grp 0).stateTimer ≠ some 0 ∧
      (gainer.grp 0).minStopTimer ≠ some 0 ∧ (gainer.grp 0).holdEnd = none := by decide +kernel

/-- GroupsGiveUpGo: V1 enters STOP in the target with V2 in GO, and with P3 35.5 ds after its end of GO, where V1's start timer
counts max(30, 100 − 20 − 35) = 45 whole deciseconds. -/
theorem test_witness_start_timer_set :
    let s := with1 (clearing 1) 1 fun _ => going 100
    let u := with1 (clearing 1) 2 fun r => { r with sinceGo := some (us 35 + 50000) }
    (∀ v ∈ [s, u], v.PlainRunning ∧ (v.grp 0).state = .clear ∧ (v.grp 0).stateTimer = some 0 ∧
        (v.grp 0).pendingOrder = none ∧ inSet 0 (v.stageSet v.arb.target) = true ∧ (v.cfg 0).minStop ≠ 0 ∧
        ∀ c, (v.intergreen 0 c).isSome = true → (v.grp c).gaining = false) ∧
      ((s.intergreen 1 0).isSome = true ∧ (s.grp 1).state = .go) ∧
      (∀ c, (u.intergreen c 0).isSome = true → (u.grp c).state ≠ .go ∧ (u.grp c).state ≠ .prepare) ∧
      seen (after (.clearTimerExpiry 1) s) 0 = (.stop, none, true) ∧
      seen (after (.clearTimerExpiry 1) u) 0 = (.stop, some (us 45), true) := by decide +kernel

/-- A state whose groups have no min stop, and P3 no clear time. -/
def brief (s : State) : State :=
  { s with
    tables := { s.tables with
      groups := (s.tables.groups.map fun c => { c with minStop := 0 }).set 2 ⟨.pedestrian, 0, 0, 0, false⟩ } }

/-- P3 in GO and terminating for stage 2. -/
def leavingP3 (minGo : Option Nat) (lapsed : Bool) (hold : Option Nat) : State :=
  { brief (with1 (stage4 .localMode) 2 fun r =>
      { r with minGoTimer := minGo, minGoLapsed := lapsed, terminating := true, holdEnd := hold })
    with now := 140, arb := ⟨2, 4, false, none, some 2, none, none⟩ }

/-- T4 in CLEAR with its clear time run out, V1 in GO, and stage 3 the target. -/
def clearingT4 : State :=
  { brief (running .localMode 3 (going 100) stopped stopped { stopped with state := .clear, stateTimer := some 0 })
    with arb := ⟨3, 1, false, none, some 3, none, none⟩ }

/-- GroupsGiveUpGo: P3 without a clear time, at the end of its min go and at its hold end. -/
theorem test_witness_direct_stop :
    ((leavingP3 (some 0) false none).PlainRunning ∧ ((leavingP3 (some 0) false none).grp 2).minGoTimer = some 0 ∧
        ((leavingP3 (some 0) false none).grp 2).state = .go ∧
        ((leavingP3 (some 0) false none).grp 2).terminating = true ∧
        ((leavingP3 (some 0) false none).cfg 2).clearTime = 0 ∧
        ((leavingP3 (some 0) false none).grp 2).pendingOrder = none ∧
        inSet 2 ((leavingP3 (some 0) false none).stageSet (leavingP3 (some 0) false none).arb.target) = false) ∧
      ((leavingP3 none true (some 140)).PlainRunning ∧ ((leavingP3 none true (some 140)).grp 2).holdEnd = some 140 ∧
        140 ≤ (leavingP3 none true (some 140)).now ∧ ((leavingP3 none true (some 140)).grp 2).minGoLapsed = true) := by
  decide +kernel

/-- GroupsGiveUpGo: V1 and T4 enter STOP without a min stop, in the target, with no conflicting group in the way. -/
theorem test_witness_step_on :
    (∀ sg ∈ [(brief (clearing 1), (0 : GroupId)), (clearingT4, 3)],
      sg.1.PlainRunning ∧ (sg.1.grp sg.2).state = .clear ∧ (sg.1.grp sg.2).stateTimer = some 0 ∧
        (sg.1.grp sg.2).pendingOrder = none ∧ inSet sg.2 (sg.1.stageSet sg.1.arb.target) = true ∧
        (sg.1.cfg sg.2).minStop = 0 ∧
        (∀ c, (sg.1.intergreen c sg.2).isSome = true → (sg.1.grp c).state ≠ .go ∧ (sg.1.grp c).state ≠ .prepare) ∧
        (∀ c, (sg.1.intergreen sg.2 c).isSome = true → (sg.1.grp c).gaining = false)) ∧
      (∀ c i e, (brief (clearing 1)).intergreen c 0 = some i → ((brief (clearing 1)).grp c).sinceGo = some e →
        i ≤ wholeDs e + 20) ∧
      (∀ c i e, clearingT4.intergreen c 3 = some i → (clearingT4.grp c).sinceGo = some e → i ≤ wholeDs e + 0) ∧
      ((brief (clearing 1)).cfg 0).prepareTime = 20 ∧ clearingT4.kind 3 ≠ .vehicle :=
  ⟨by decide +kernel, no_term_left _ _ _ (by decide +kernel), no_term_left _ _ _ (by decide +kernel), by decide +kernel,
    by decide +kernel⟩

/-- StandbyStepsAndRests: the step of stage 2 at position 2, at V2's max go and at the step green's end, with demand for V1,
whose stage stands at position 1 and whose min stop runs. -/
theorem test_witness_standby_step :
    let s : State := with1 (with1 step2due 1 fun r => { r with goElapsed := us 200 }) 0 fun r =>
      { r with minStopTimer := some 1 }
    let u : State := { s with sb := { s.sb with stepGreen := some 0 } }
    (s.mc.mode = .standby ∧ s.sb.established = true ∧ s.sb.suspended = false ∧ s.work.isIdle = true ∧
        s.sb.stepStage = some 2 ∧ s.sb.stepIndex ≤ s.sequence.length) ∧
      (inSet 1 (s.stageSet 2) = true ∧ (s.grp 1).state = .go ∧
        (s.grp 1).maxGoInForce ≤ wholeDs (s.grp 1).goElapsed) ∧ u.sb.stepGreen = some 0 ∧
      (1 ≤ 1 ∧ s.sequence[1 - 1]? = some 1 ∧ ∃ g, inSet g (s.stageSet 1) = true ∧ inSet g s.det.demand = true ∧
        inSet g (s.stageSet 2) = false) ∧
      (1 + s.sequence.length - s.sb.stepIndex - 1) % s.sequence.length = 0 ∧
      (∀ g, inSet g (s.stageSet 2) = true → inSet g (s.stageSet 1) = false →
        (s.grp g).minGoLapsed = true ∧ inSet g s.det.extension = false) ∧
      (s.arb.modeTarget = none ∧ s.arb.returnTarget = none ∧ s.arb.target ≠ 1 ∧ s.Undisturbed ∧
        inSet 0 (s.stageSet 1) = true ∧ (s.grp 0).state = .stop ∧ (s.grp 0).minStopTimer.getD 0 ≠ 0) := by decide +kernel

/-- StandbyStepsAndRests: no stage is due where V1 has no demand; V2 has an extension, which a resumed step keeps to while its
green runs; and events that are not due. -/
theorem test_witness_standby_stays :
    (∀ g, inSet g step2.det.demand = false) ∧
      (let u : State := { step2due with det := { step2due.det with extension := 2 },
                                        sb := { step2due.sb with resumed := true, stepGreen := some 1 } }
       inSet 1 (u.stageSet 2) = true ∧ inSet 1 (u.stageSet 1) = false ∧ inSet 1 u.det.extension = true ∧
         u.sb.resumed = true ∧ u.sb.stepGreen ≠ none ∧ u.sb.stepGreen ≠ some 0) ∧
      (step2.grp 0).state ≠ .go ∧
      wholeDs { step2.grp 1 with goElapsed := us 200 - 1 }.goElapsed < (step2.grp 1).maxGoInForce := by decide +kernel

/-- StandbyStepsAndRests: rest is due at its delay of 100 ds and not one microsecond before; the rest stage stands first in
the sequence, and in the sequence 2 alone it does not stand. -/
theorem test_witness_standby_rest :
    (step2.mc.mode = .standby ∧ step2.sb.established = true ∧ step2.sb.suspended = false ∧ step2.work.isIdle = true ∧
        step2.sb.stepStage = some 2 ∧ step2.sb.stepIndex ≤ step2.sequence.length ∧
        step2.sb.atRest = false ∧ step2.plan.restDelay ≠ 0 ∧ step2.plan.restDelay ≤ wholeDs step2.sb.restElapsed ∧
        (∀ g, inSet g step2.det.demand = true → inSet g (step2.stageSet 2) = true) ∧
        ∀ g, inSet g step2.det.extension = true → inSet g (step2.stageSet 2) = true →
          inSet g (step2.stageSet step2.tables.junction.restStage) = true) ∧
      ¬(step2.plan.restDelay ≤ wholeDs (us 100 - 1)) ∧
      step2.sequence[0]? = some step2.tables.junction.restStage ∧
      step2.tables.junction.restStage ∉ ([2] : List StageId) := by decide +kernel

/-- Eight calls of class 2 for T4, in rank order. -/
def eightCalls : List Call :=
  (List.range 8).map fun n =>
    { tram311 with tram := 701 + n, stamp := n, state := .natural, actionTimer := none }

/-- Stage 3 with a full call list, at the last arrival stamp. -/
def fullList : State :=
  { stage3 .localMode with pu := { (stage3 .localMode).pu with calls := eightCalls, arrivals := 65535 } }

/-- CheckinPlacesCall: an empty list, a full list with a higher class and with the same one, an update, another group. -/
theorem test_witness_checkin :
    let e := stage3 .standby
    (e.Takes .t .callCheckin ∧ e.mc.mode.isSignal = true ∧ e.CallsRanked ∧ e.NoRedOut ∧ 4 = (3 : GroupId).val + 1 ∧
        e.kind 3 = .tram ∧ (∀ n ∈ [1, 65534], 1 ≤ n ∧ n ≤ 65534) ∧ (∀ n ∈ [1, 3], 1 ≤ n ∧ n ≤ 3) ∧
        e.call? 1 = none ∧ e.pu.calls.length < 8 ∧ e.pu.arrivals ≠ 65535) ∧
      (fullList.Takes .t .callCheckin ∧ fullList.mc.mode.isSignal = true ∧ fullList.CallsRanked ∧ fullList.NoRedOut ∧
        fullList.call? 1 = none ∧ 8 ≤ fullList.pu.calls.length ∧ fullList.pu.arrivals = 65535 ∧
        (fullList.evictable?.map fun v => (v.tram, v.cls)) = some (708, 2) ∧
        (fullList.call? 703).map (·.group) = some 3 ∧ (3 : GroupId) ≠ 2) := by decide +kernel

/-- CallsLeaveTheList: ill fields, a mode without calls, trams with and without a call, a call past its time and one at
it. -/
theorem test_witness_calls_leave :
    let s := withCall (stage2 .localMode) { tram311 with elapsed := us 851 - 1 }
    let u := withCall (stage2 .localMode) { tram311 with elapsed := us 851 }
    (s.Takes .t .callCheckin ∧ (∀ n ∈ [0, 25], ¬(1 ≤ n ∧ n ≤ 24)) ∧ 65534 < 65535 ∧ 3 < 4 ∧ s.kind 2 ≠ .tram) ∧
      (dark.Takes .t .callCheckin ∧ dark.kind 3 = .tram ∧ dark.mc.mode.isSignal = false) ∧
      (s.Takes .t .callCheckout ∧ s.Takes .t .callCancel ∧ s.call? 1 = none ∧ (s.call? 311).isSome = true ∧
        s.mc.mode.isSignal = true ∧ s.NoRedOut) ∧
      (u.call? 311 = some { tram311 with elapsed := us 851 } ∧ u.work.isIdle = true ∧
        250 + max u.plan.callTimeout 100 < wholeDs (us 851) ∧
        wholeDs (us 851 - 1) ≤ 250 + max s.plan.callTimeout 100) := by decide +kernel

/-- A state with plan 0 of 4.11 as every plan. -/
def plain0 (s : State) : State := { s with tables := { s.tables with plans := Vector.replicate 4 plan0 } }

/-- Tram 311 due at T4, with more calls behind it. -/
def dueCall (recovery : Option Nat) (calls : List Call) : State :=
  let s := plain0 (stage2 .localMode)
  { s with pu := { s.pu with calls := tram311 :: calls, recovery := recovery } }

/-- An acting call of tram 702. -/
def acting702 (st : CallState) (g : GroupId) : Call :=
  { tram311 with tram := 702, group := g, stamp := 1, state := st, actionTimer := none }

/-- DueCallStartsEarly: the due call alone, T4 in STOP with its min stop lapsed, with no recovery, with recovery run out and
with recovery running, and an empty list. -/
theorem test_witness_due_call :
    let s := dueCall none []
    (s.mc.mode = .localMode ∧ s.work.isIdle = true ∧ s.NoRedOut ∧ s.arb.modeTarget = none ∧ s.pu.calls = [tram311] ∧
        tram311.state = .waiting ∧ s.pu.stack = [] ∧ s.slack tram311 ≤ 0 ∧ (s.grp tram311.group).state ≠ .go ∧
        inSet tram311.group (s.stageSet s.arb.target) = false ∧ s.priorityStage tram311.group ≠ s.arb.target ∧
        (∀ n : Fin 4, s.tables.plans[n].maxExt ≠ 0) ∧ tram311.actionTimer = some 0 ∧ s.pu.recovery = none) ∧
      (dueCall (some 0) []).pu.recovery = some 0 ∧ (dueCall (some 1) []).pu.recovery = some 1 ∧
      ({ stage2 .localMode with pu := { (stage2 .localMode).pu with recovery := some 0 } }).pu.calls = [] := by
  decide +kernel

/-- DueCallStartsEarly: an acting call, in EARLY and in EXTEND, behind the due one. -/
theorem test_witness_due_call_pre_empts :
    ∀ v ∈ [acting702 .early 3, acting702 .extend 3],
      let s := dueCall none [v]
      (s.mc.mode = .localMode ∧ s.work.isIdle = true ∧ s.NoRedOut ∧ s.arb.modeTarget = none ∧
          s.pu.calls = [tram311, v] ∧ tram311.tram ≠ v.tram ∧ v.acting = true ∧ s.pu.stack.length < 4) ∧
        (tram311.state = .waiting ∧ s.slack tram311 ≤ 0 ∧ (s.grp tram311.group).state ≠ .go ∧
          inSet tram311.group (s.stageSet s.arb.target) = false ∧ s.priorityStage tram311.group ≠ s.arb.target ∧
          (∀ n : Fin 4, s.tables.plans[n].maxExt ≠ 0) ∧ tram311.actionTimer = some 0 ∧ s.pu.recovery = none) := by
  decide +kernel

/-- A full return stack: three records above one that names a call or none. -/
def fullStack (bottom : Option Nat) : List ReturnRecord :=
  [⟨3, some 2, none, some 704, some .extend, true⟩, ⟨2, some 2, none, some 705, some .early, true⟩,
      ⟨1, some 2, none, some 706, some .early, true⟩] ++
    [⟨2, some 2, none, bottom, bottom.map fun _ => .early, false⟩]

/-- DueCallStartsEarly: a pre-emption that finds four records, the bottom one naming no call and the suspended tram 703. -/
theorem test_witness_due_call_overflows :
    ∀ v ∈ [acting702 .early 3, acting702 .extend 3],
      let u := { acting702 .suspended 3 with tram := 703, stamp := 2 }
      let d := dueCall none [v]
      let s (bottom : Option Nat) (calls : List Call) : State :=
        { d with pu := { d.pu with calls := calls, stack := fullStack bottom } }
      ((s none [tram311, v]).pu.stack = (fullStack none).take 3 ++ [⟨2, some 2, none, none, none, false⟩] ∧
          ((fullStack none).take 3).length = 3 ∧ (s none [tram311, v]).slack tram311 ≤ 0) ∧
        (s (some 703) [tram311, v, u]).pu.stack =
          (fullStack (some 703)).take 3 ++ [⟨2, some 2, none, some u.tram, some .early, false⟩] ∧
        u.tram ≠ tram311.tram ∧ u.tram ≠ v.tram ∧ u.state = .suspended := by decide +kernel

/-- R90: that pre-emption discards the bottom record, posts STACK_OVERFLOW (bit 15) with tram 703, and releases its call. -/
theorem test_stack_overflow :
    let v := acting702 .early 3
    let d := dueCall none [v, { acting702 .suspended 3 with tram := 703, stamp := 2 }]
    let t := after (.actionTimerExpiry 311) { d with pu := { d.pu with stack := fullStack (some 703) } }
    t.pu.stack.map (·.call) = [some 702, some 704, some 705, some 706] ∧ t.ports.t.flags.getLsbD 15 = true ∧
      t.ports.t.details[15] = 703 ∧ (t.call? 703).map (·.state) ≠ some .suspended ∧
      (t.call? 702).map (·.state) = some .suspended := by decide +kernel

/-- R49, R57, R81: with maxExt 0 an EARLY action whose group T4 steps at once ends at that moment. Its target, stage 5 =
T4, is taken first: group 5, past its min go and left out, has begun CLEAR when the target is stage 6 = group 5 again. -/
theorem test_intermediate_target :
    let s := withCall (running .localMode 6 stopped stopped stopped stopped) tram311
    let u : State := { s with
      groups := s.groups.set 4 (going 60)
      tables := { s.tables with
        groups := s.tables.groups.set 4 ⟨.vehicle, 30, 20, 30, false⟩
        stages := (s.tables.stages.set 4 (some 8)).set 5 (some 16)
        junction := { s.tables.junction with priority := s.tables.junction.priority.set 3 5 }
        plans := Vector.replicate 4 { plan0 with maxExt := 0, margin := 100 } } }
    let t := after (.actionTimerExpiry 311) u
    t.arb.target = 6 ∧ (t.grp 4).state = .clear ∧ (t.grp 3).state = .go ∧ (t.grp 3).terminating = true ∧
      t.pu.recovery = some (us 300) := by decide +kernel

/-- The worked junction with vehicle group 5, past its min go, and TRAM group 6: stage 3 is V1, T4 and group 5, stage 7
group 6 with priority stage 7, stage 8 T4 and group 6. -/
def twoTrams (m : Mode) (st : StageId) (t4 g5 g6 : GroupRun) : State :=
  let s := plain0 (running m st (if st = 3 then going 100 else stopped) stopped stopped t4)
  { s with
    groups := (s.groups.set 4 g5).set 5 g6
    tables := { s.tables with
      groups := (s.tables.groups.set 4 ⟨.vehicle, 30, 20, 30, false⟩).set 5 ⟨.tram, 20, 0, 20, false⟩
      stages := ((s.tables.stages.set 2 (some 25)).set 6 (some 32)).set 7 (some 40)
      junction := { s.tables.junction with priority := s.tables.junction.priority.set 5 7 } } }

/-- R49, R57, R84, R89: the EARLY action of tram 702 leaves out T4, whose NATURAL tram 311 is ahead and is granted its
extension, and group 5. The target is stage 3 again at that moment, and group 5 has begun CLEAR for the intermediate one. -/
theorem test_pre_empted_at_once :
    let s := twoTrams .localMode 3 (going 30) (going 60) stopped
    let n := { tram311 with cls := 1, state := .natural, actionTimer := none }
    let d := { acting702 .waiting 5 with travel := 190, actionTimer := some 0 }
    let t := after (.actionTimerExpiry 702) { s with pu := { s.pu with calls := [n, d], arrivals := 2 } }
    t.pu.calls.map (fun c => (c.tram, c.state)) = [(311, .extend), (702, .suspended)] ∧ t.arb.target = 3 ∧
      t.arb.priorityRequest = none ∧ (t.grp 3).state = .go ∧ (t.grp 4).state = .clear := by decide +kernel

/-- Tram 702 in EARLY at its service end in stage 8, over a return record, with tram 311 for T4, whose green is not served. -/
def endingBeside (m : Mode) (st : CallState) (r : ReturnRecord) : State :=
  let s := twoTrams m 8 (going 30) stopped (going 30)
  let n := { tram311 with cls := 1, state := st, actionTimer := none }
  let e := { acting702 .early 5 with serviceEnd := some 290 }
  { s with
    now := 290, pu := ⟨[n, e], [r], none, 2, false, 32⟩, arb := { s.arb with demand := some 2, priorityRequest := some 8 },
    sb := { s.sb with stepIndex := 2, stepStage := some 2, suspended := m = .standby } }

/-- R92 to R94, R131, R132: in STANDBY the return to stage 2 leaves out T4, and its NATURAL tram is granted its extension; the
suspension of the ended action has given way to that of the new one, with the green left that the record carried. In LOCAL a
stale record releases that tram, which is NATURAL, and is granted its extension, before the termination is answered. -/
theorem test_extension_after_end :
    let t := after (.serviceEndReached 702) (endingBeside .standby .natural ⟨2, some 2, some 80, none, none, false⟩)
    let u := after (.serviceEndReached 702) (endingBeside .localMode .suspended ⟨3, some 3, none, some 311, some .early, true⟩)
    ((t.call? 311).map (·.state) = some .extend ∧ t.sb.suspended = true ∧ t.sb.resumed = true ∧
        t.sb.resumeGreen = some 80 ∧ t.sb.established = false ∧ t.arb.target = 2) ∧
      (u.call? 311).map (·.state) = some .extend ∧ (u.grp 3).holdEnd = some (290 + us 130) ∧ (u.grp 5).state = .clear ∧
      u.pu.stack = [] := by decide +kernel

/-- Tram 311 in EARLY with its service end at 290, over return records and with more calls. -/
def early311 : Call := { tram311 with state := .early, actionTimer := none, serviceEnd := some 290 }

/-- Stage 3 with tram 311 in EARLY at its service end. -/
def ending311 (calls : List Call) (stack : List ReturnRecord) (resumed : Bool) : State :=
  { plain0 (stage3 .localMode) with now := 290, pu := ⟨early311 :: calls, stack, none, 2, resumed, 8⟩ }

/-- ActionEndReturns: an EARLY action at its service end with a fresh record, a stale one and one whose demand is no longer
the authority's, a resumed action, and the service end not reached. -/
theorem test_witness_action_end :
    let r : ReturnRecord := ⟨2, some 3, none, none, none, false⟩
    (let s := ending311 [] [r] false
     s.mc.mode = .localMode ∧ s.work.isIdle = true ∧ s.NoRedOut ∧ s.arb.modeTarget = none ∧ s.plan.recovery ≠ 0 ∧
        s.pu.calls = [early311] ∧ s.pu.resumedMark = false ∧ early311.state = .early ∧ early311.serviceEnd = some 290 ∧
        290 ≤ s.now ∧ inSet early311.group s.pu.served = true ∧ s.pu.stack = [r] ∧ r.call = none ∧ r.stale = false ∧
        r.demand = s.arb.demand) ∧
      { r with stale := true }.stale = true ∧ { r with demand := none }.demand ≠ (ending311 [] [] false).arb.demand ∧
      (ending311 [] [] true).pu.resumedMark = true ∧ (ending311 [] [] true).pu.stack = [] ∧
      (∀ n : Fin 4, (ending311 [] [] true).tables.plans[n].maxExt ≠ 0) ∧
      { ending311 [] [] false with now := 289 }.now < 290 := by decide +kernel

/-- ActionEndReturns: the same in STANDBY while suspended, with and without a standby remaining; V2 of the stage that the
record gives is in STOP. -/
theorem test_witness_action_end_standby :
    ∀ r ∈ [(⟨2, some 3, some 80, none, none, false⟩ : ReturnRecord), ⟨2, some 3, none, none, none, false⟩],
      let e := ending311 [] [r] false
      let s : State := { e with mc := { e.mc with mode := .standby }, sb := { e.sb with suspended := true } }
      (s.mc.mode = .standby ∧ s.sb.suspended = true ∧ s.work.isIdle = true ∧ s.arb.modeTarget = none ∧
          s.plan.recovery ≠ 0 ∧ s.pu.calls = [early311] ∧ s.pu.resumedMark = false ∧ early311.state = .early ∧
          early311.serviceEnd = some 290 ∧ 290 ≤ s.now ∧ s.pu.stack = [r]) ∧
        r.call = none ∧ r.stale = false ∧ r.demand = s.arb.demand ∧ r.resume ≠ s.arb.target ∧
        inSet 1 (s.stageSet r.resume) = true ∧ (s.grp 1).state ≠ .go := by decide +kernel

/-- ActionEndReturns: a record that names a call suspended in EARLY, fresh and stale, and one suspended in EXTEND. -/
theorem test_witness_action_resumes :
    let v := acting702 .suspended 1
    let r : ReturnRecord := ⟨2, some 3, none, some 702, some .early, false⟩
    let s := ending311 [v] [r] false
    (s.NoRedOut ∧ s.work.isIdle = true ∧ s.pu.calls = [early311, v] ∧ early311.tram ≠ v.tram ∧ v.state = .suspended ∧
        s.pu.resumedMark = false ∧ inSet early311.group s.pu.served = true ∧ s.pu.stack = [r] ∧ r.call = some v.tram ∧
        r.stale = false ∧ r.demand = s.arb.demand ∧ r.suspended = some .early ∧ (s.grp v.group).state ≠ .go ∧
        ∀ n : Fin 4, s.tables.plans[n].maxExt ≠ 0) ∧
      { r with stale := true }.stale = true ∧ { r with suspended := some .extend }.suspended = some .extend := by
  decide +kernel

/-- ActionEndReturns: the call to resume is for T4 in GO, 149 ds, half a decisecond on, and 150 ds after its start,
with maxExt 150. -/
theorem test_witness_action_resumes_in_go :
    ∀ e ∈ [us 149, us 149 + 50000, us 150],
      let v := acting702 .suspended 3
      let r : ReturnRecord := ⟨2, some 3, none, some 702, some .early, false⟩
      let s := with1 (ending311 [v] [r] false) 3 fun g => { g with goElapsed := e }
      (s.NoRedOut ∧ s.work.isIdle = true ∧ s.pu.calls = [early311, v] ∧ v.state = .suspended ∧
          inSet v.group s.pu.served = true ∧ s.pu.stack = [r] ∧ r.call = some v.tram ∧ r.stale = false ∧ r.demand = s.arb.demand ∧ r.suspended = some .early) ∧
        (s.grp v.group).state = .go ∧ (wholeDs (s.grp v.group).goElapsed < s.plan.maxExt ↔ e ≠ us 150) := by
  decide +kernel

/-- R1, R94: a call resumed 149.5 ds after its group's start of GO, at a go-start elapsed of 149, has its service end one
whole decisecond after the resumption. -/
theorem test_resumed_service_end :
    let r : ReturnRecord := ⟨2, some 3, none, some 702, some .early, false⟩
    let s := with1 (ending311 [acting702 .suspended 3] [r] false) 3 fun g => { g with goElapsed := 14950000 }
    ((after (.serviceEndReached 311) s).call? 702).map (·.serviceEnd) = some (some (290 + us 1)) := by decide +kernel

/-- ActionEndReturns: an EXTEND action at its hold end. -/
theorem test_witness_hold_end :
    let d : Call := { tram311 with state := .extend, actionTimer := none, extensionLimit := some 290 }
    let u : State :=
      { with1 (stage3 .localMode) 3 fun g => { g with holdEnd := some 290 } with
        now := 290, pu := ⟨[d], [], none, 1, false, 8⟩ }
    u.mc.mode = .localMode ∧ u.arb.modeTarget = none ∧ u.plan.recovery ≠ 0 ∧ u.NoRedOut ∧ u.work.isIdle = true ∧
      u.pu.calls = [d] ∧ u.pu.resumedMark = false ∧ d.state = .extend ∧ inSet d.group u.pu.served = true ∧
      (u.grp d.group).holdEnd = some 290 ∧ 290 ≤ u.now ∧ u.pu.stack = [] := by decide +kernel

/-- TramHoldsItsGreen: a need of 150, which is granted, of 151, which is not, and a served green; an acting call behind. -/
theorem test_witness_tram_holds :
    let c (travel : Nat) : Call := { tram311 with travel := travel, elapsed := 0, state := .natural, actionTimer := none }
    let s (travel : Nat) (calls : List Call) : State :=
      with1 { stage3 .localMode with pu := ⟨c travel :: calls, [], none, 2, false, 0⟩ } 3 fun r =>
        { r with terminating := true, minGoLapsed := false, minGoTimer := some 0 }
    ((s 110 []).mc.mode = .localMode ∧ (s 110 []).work.isIdle = true ∧ (s 110 []).NoRedOut ∧
        (s 110 []).arb.modeTarget = none ∧ (s 110 []).pu.calls = [c 110] ∧ (s 110 []).kind 3 = .tram ∧
        ((s 110 []).grp 3).state = .go ∧ ((s 110 []).grp 3).terminating = true ∧
        ((s 110 []).grp 3).minGoTimer = some 0 ∧ ((s 110 []).grp 3).holdEnd = none ∧
        ((s 110 []).cfg 3).clearTime ≠ 0) ∧
      (inSet 3 (s 110 []).pu.served = false ∧
        110 - wholeDs 0 + max (s 110 []).plan.passage 10 ≤ (s 110 []).plan.maxExt) ∧
      (s 111 []).plan.maxExt < 111 - wholeDs 0 + max (s 111 []).plan.passage 10 ∧
      inSet 3 { (s 110 []).pu with served := 8 }.served = true ∧
      ∀ v ∈ [acting702 .early 0, acting702 .extend 0],
        (s 110 [v]).pu.calls = [c 110, v] ∧ (c 110).tram ≠ v.tram ∧ v.acting = true ∧ v.group ≠ 3 ∧
          (s 110 [v]).pu.stack.length < 4 ∧ (s 110 [v]).NoRedOut ∧ (s 110 [v]).work.isIdle = true := by decide +kernel

/-- TramHoldsItsGreen: the grant that pre-empts finds four records, the bottom one naming no call and tram 703. -/
theorem test_witness_tram_overflows :
    ∀ v ∈ [acting702 .early 0, acting702 .extend 0], ∀ bottom ∈ [none, some 703],
      let c : Call := { tram311 with travel := 110, elapsed := 0, state := .natural, actionTimer := none }
      let u := { acting702 .suspended 3 with tram := 703, stamp := 2 }
      let calls := if bottom = none then [c, v] else [c, v, u]
      let s : State :=
        with1 { stage3 .localMode with pu := ⟨calls, fullStack bottom, none, 2, false, 0⟩ } 3 fun r =>
          { r with terminating := true, minGoLapsed := false, minGoTimer := some 0 }
      (s.mc.mode = .localMode ∧ s.work.isIdle = true ∧ s.NoRedOut ∧ s.arb.modeTarget = none ∧ s.kind 3 = .tram ∧
          (s.grp 3).state = .go ∧ (s.grp 3).holdEnd = none ∧ (s.cfg 3).clearTime ≠ 0 ∧ inSet 3 s.pu.served = false ∧
          110 - wholeDs 0 + max s.plan.passage 10 ≤ s.plan.maxExt) ∧
        c.tram ≠ v.tram ∧ v.acting = true ∧ v.group ≠ 3 ∧ u.tram ≠ c.tram ∧ u.tram ≠ v.tram ∧
        s.pu.stack = (fullStack bottom).take 3 ++ (fullStack bottom).drop 3 ∧ ((fullStack bottom).take 3).length = 3 ∧
        ((fullStack bottom).drop 3).map (·.call) = [bottom] := by decide +kernel

/-- LoopVisitJudgesChannel: an idle engine, a visit, the counts at the bounds of R140 for Nc = 512 and of JUMP for
B = 800,000, and the shifts at the thresholds of S_on = 300. -/
theorem test_witness_loop_visit :
    dark.work.isIdle = true ∧ dark.engines[(1 : BankId)] = none ∧ dark.engines[(0 : BankId)] = some ⟨0, 512⟩ ∧
      (512 * 40000000 < 1706667 * 12000 ∧ 136533 * 150000 < 512 * 40000000) ∧
      (∀ P ∈ [136534, 1706666], P * 12000 ≤ 512 * 40000000 ∧ 512 * 40000000 ≤ P * 150000) ∧
      (∀ P ∈ [1600001, 399999], 2 * 800000 < P ∨ 2 * P < 800000) ∧
      (∀ P ∈ [1600000, 400000], ¬(2 * 800000 < P ∨ 2 * P < 800000)) ∧
      (shift 800000 799760 = 300 ∧ 300 * 3 / 4 = 225 ∧ shift 800000 799820 = 225 ∧ shift 800000 799821 = 223 ∧
        shift 800000 800240 = -300 ∧ shift 800000 800239 = -298) ∧
      (loopAt vacant).chans[0].state = .vacant ∧ (loopAt vacant).chans[0].baseline = some 800000 ∧
      (loopAt vacant).chans[0].confirm = none ∧ 2 ≤ ((loopAt vacant).bank 0).k := by decide +kernel

/-- LoopVisitJudgesChannel: the runs and states that its clauses name. -/
theorem test_witness_loop_runs :
    (∀ r ∈ [(none, 0), (some (FaultClass.shortLoop, 2), 0), (some (FaultClass.openLoop, 1), 1),
        (some (FaultClass.openLoop, 2), 2)],
        (loopAt fun c => { vacant c with faultRun := r.1 }).chans[0].faultsOf .openLoop = r.2) ∧
      (∀ n ∈ [0, 6, 7], (loopAt fun c => { c with state := .fault, recovery := n }).chans[0].recovery = n) ∧
      dark.chans[0].state = .untuned ∧
      ((loopAt vacant).chans[0].runOf .occupied + 1 < ((loopAt vacant).bank 0).k ∧
        ((loopAt vacant).bank 0).k ≤
          (loopAt fun c => { vacant c with confirm := some (.occupied, 1) }).chans[0].runOf .occupied + 1) ∧
      (let c := (loopAt fun c => { vacant c with state := .occupied, presence := 10, occupied := us 100 - 1 }).chans[0];
        c.state = .occupied ∧ wholeDs c.occupied < 10 * c.presence) ∧
      (let c := (loopAt fun c => { vacant c with state := .occupied, presence := 10, occupied := us 100 }).chans[0];
        c.presence ≠ 0 ∧ 10 * c.presence ≤ wholeDs c.occupied) := by decide +kernel

/-- ContactSampleJudgesChannels: a LOOP bank, the contact bank, and the push button in each state. -/
theorem test_witness_contact :
    ((dark.bank 0).mode = .loop ∧ (dark.bank 3).mode = .contact ∧ bankOf 24 = 3 ∧ bankOf 23 ≠ 3 ∧
        dark.chanEnabled 24 = true ∧ dark.chanEnabled 25 = false ∧ (dark.bank 3).k = 2) ∧
      ((0xFE : BitVec 8).getLsbD (24 % 8) = false ∧ (0x01 : BitVec 8).getLsbD (24 % 8) = true) ∧
      (dark.chans[24].state = .vacant ∧ dark.chans[24].runOf .occupied + 1 < 2) ∧
      2 ≤ (buttonAt fun c => { c with confirm := some (.occupied, 1) }).chans[24].runOf .occupied + 1 ∧
      (let c := (buttonAt fun c => { c with state := .occupied, presence := 60, occupied := us 600 - 1,
                                            confirm := some (.vacant, 1) }).chans[24];
        c.state = .occupied ∧ wholeDs c.occupied < 10 * c.presence ∧ 2 ≤ c.runOf .vacant + 1 ∧ c.runOf .occupied + 1 < 2) ∧
      (let c := (buttonAt fun c => { c with state := .occupied, presence := 60, occupied := us 600 }).chans[24];
        c.presence ≠ 0 ∧ 10 * c.presence ≤ wholeDs c.occupied) ∧
      (let c := (buttonAt fun c => { c with state := .fault, fault := some .stuck, recovery := 1 }).chans[24];
        c.state = .fault ∧ 2 ≤ c.recovery + 1 ∧ { c with recovery := 0 }.recovery + 1 < 2) := by decide +kernel

/-- ContactSampleJudgesChannels: the push button entered in STANDBY, with activity participation. -/
theorem test_witness_contact_activity :
    let s : State :=
      { buttonAt fun c => { c with confirm := some (.occupied, 1) } with mc := { dark.mc with mode := .standby } }
    s.work.isIdle = true ∧ s.chanEnabled 24 = true ∧ s.chans[24].state ≠ .occupied ∧
      s.tables.detectors[24].activity = true ∧ (after (.contactSample 3 0xFE) s).chans[24].state = .occupied := by
  decide +kernel

/-- StretchEndsExtension: a stretch timer run out, and one not running. -/
theorem test_witness_stretch :
    let s : State := { dark with det := { dark.det with stretch := dark.det.stretch.set 0 (some 0) } }
    s.work.isIdle = true ∧ s.det.stretch[(0 : ChanId)] = some 0 ∧ s.det.stretch[(1 : ChanId)] ≠ some 0 := by
  decide +kernel

/-- LampSampleProves: no go aspect sensed, V1's and V2's together, and the runs that its clauses name. -/
theorem test_witness_lamp_sample :
    (∀ g, (dark.cfg g).redMonitored = false) ∧ dark.work.isIdle = true ∧
      (∀ o : Fin 72, ∀ g, dark.tables.outputs[o].source = .groupRole g .go →
        ¬((0 : BitVec 72).getLsbD o.val ≠ dark.tables.outputs[o].inverted)) ∧
      ((dark.intergreen 0 1).isSome = true ∧ (0 : GroupId) ≠ 1 ∧
        dark.tables.outputs[(0 : OutId)].source = .groupRole 0 .go ∧
        (3 : BitVec 72).getLsbD 0 ≠ dark.tables.outputs[(0 : OutId)].inverted ∧
        dark.tables.outputs[(1 : OutId)].source = .groupRole 1 .go ∧
        (3 : BitVec 72).getLsbD 1 ≠ dark.tables.outputs[(1 : OutId)].inverted) ∧
      (dark.lm.conflictRun ≠ 1 ∧ { dark.lm with conflictRun := 2 }.conflictRun ≠ 1 ∧
        { dark.lm with conflictRun := 1 }.conflictRun = 1) ∧
      (∀ n ∈ [199999, 200000],
        { dark with now := n }.lm.lamps[(0 : OutId)].lastChange + 200000 ≤ n ↔ n = 200000) ∧
      dark.out.lit[(0 : OutId)] = .off ∧
      (∀ r ∈ [some (Mismatch.offSensed, 1), some (Mismatch.offSensed, 2)],
        { dark.lm.lamps[(0 : OutId)] with mismatch := r }.mismatch = r) ∧
      (∀ r ∈ [none, some (Mismatch.onNotSensed, 2)], r.map Prod.fst ≠ some Mismatch.offSensed) ∧
      (∀ n ∈ [1, 2], { dark.lm.lamps[(0 : OutId)] with matchRun := n }.matchRun = n) := by decide +kernel

/-- V1 red-monitored, in STOP, with the lamp of its one STOP-role channel, which is driven on, missing twice in a row. -/
def losingRed (m : Mode) : State :=
  let s := stage2 m
  { s with
    tables := { s.tables with groups := s.tables.groups.set 0 ⟨.vehicle, 40, 20, 30, true⟩ }, now := 200000,
    out := { s.out with lit := s.out.lit.set 2 .on },
    lm := { s.lm with
      lamps := s.lm.lamps.set 2 { s.lm.lamps[2] with status := .proven, mismatch := some (.onNotSensed, 2) } } }

/-- LampSampleProves: that channel not sensed a third time, in LOCAL and in STARTUP, with no go aspect sensed. -/
theorem test_witness_red_lost :
    ∀ s ∈ [losingRed .localMode, losingRed .startup],
      s.work.isIdle = true ∧
        (∀ o : Fin 72, ∀ g, s.tables.outputs[o].source = .groupRole g .go →
          ¬((4 : BitVec 72).getLsbD o.val ≠ s.tables.outputs[o].inverted)) ∧
        (∀ h, h ≠ 0 → (s.cfg h).redMonitored = false) ∧ s.lm.redOut = 0 ∧ (s.cfg 0).redMonitored = true ∧
        s.GainingFits ∧
        s.kind 0 ≠ .unused ∧ (s.grp 0).state = .stop ∧ s.tables.outputs[(2 : OutId)].source = .groupRole 0 .stop ∧
        s.out.lit[(2 : OutId)] = .on ∧ s.lm.lamps[(2 : OutId)].lastChange + 200000 ≤ s.now ∧
        ¬((4 : BitVec 72).getLsbD 2 ≠ s.tables.outputs[(2 : OutId)].inverted) ∧
        s.lm.lamps[(2 : OutId)].mismatch = some (.onNotSensed, 2) ∧ s.lm.lamps[(2 : OutId)].status ≠ .lampOut ∧
        ∀ q : Fin 72, q ≠ 2 → s.tables.outputs[q].source ≠ .groupRole 0 .stop := by decide +kernel

/-- DecisecondMovesTimes: spans that pass, and a timer of 2 ds one microsecond before its expiry and at it. -/
theorem test_witness_spans :
    (∃ t, exec .decisecondElapsedRise { dark with spans := [99999, 1] } = .next t) ∧ ¬(2 ≠ 0 ∧ 2 * 100000 ≤ 199999) ∧
      (2 ≠ 0 ∧ 2 * 100000 ≤ 200000) := ⟨⟨_, rfl⟩, by decide, by decide⟩

/-- The worked junction in LOCAL with V2 waiting its turn, and a decisecond waiting in the queue. -/
def waiting : State := { stage1 .localMode with pending := [.decisecondElapsedRise] }

/-- StepKeepsRightOfWay, StepKeepsMinGo, StepKeepsCallList, StepKeepsModeFields, StepKeepsCountsAndKinds. -/
theorem test_witness_kept :
    waiting.RightOfWay ∧ waiting.IntergreensBounded ∧ waiting.MinGoKept ∧ waiting.PlansFit ∧ waiting.ListsBounded ∧
      waiting.CallsFit ∧ waiting.CallsRanked ∧ waiting.OneActing ∧ waiting.FaultLineFits ∧ waiting.ModeFieldsFit ∧
      waiting.StandbyIdle ∧ waiting.ForcesFit ∧ waiting.CountsBounded ∧ waiting.KindsFit := by
  and_intros <;> decide +kernel

/-- StepKeepsCallList: in STANDBY a suspension with an acting call, and none without. -/
theorem test_witness_suspension :
    (endingBeside .standby .natural ⟨2, some 2, some 80, none, none, false⟩).SuspensionFits ∧ step2.SuspensionFits ∧
      waiting.SuspensionFits := by decide +kernel

/-- A step of that state answers a next state. -/
theorem test_witness_kept_step : ∃ t, step waiting = .next t := ⟨_, rfl⟩

/-- StepKeepsIntergreens: every group that has left GO did so longer ago than any intergreen. -/
theorem test_witness_intergreens : waiting.IntergreensKept := by
  have h : ∀ c, (waiting.grp c).sinceGo = none ∨ us 250 ≤ (waiting.grp c).sinceGo.getD 0 := by decide +kernel
  intro c g i e hi he
  have hb := test_witness_kept.2.1 c g
  have hc := h c
  simp [hi] at hb
  simp [he, us, Config.decisecond] at hc
  simp only [us, wholeDs, Config.decisecond]
  exact ⟨fun _ => by omega, fun _ => by omega⟩

/-- StepKeepsBaselines, StepKeepsLitValues and StepKeepsAttention: a tuned loop, and a decisecond in the queue. -/
theorem test_witness_channels_and_lines :
    let s : State := { loopAt vacant with pending := [.decisecondElapsedRise] }
    (s.Tuned 0 ∧ ¬s.Tuned 24) ∧ s.ChannelsFit ∧ s.VisitsFit ∧ s.BaselinesInBand ∧ s.LinesFit ∧ (∃ t, step s = .next t) :=
  ⟨by decide +kernel, by decide +kernel, by decide +kernel, by decide +kernel, by decide +kernel, _, rfl⟩

/-- StepKeepsLitValues: the part right after reset with the flasher's event in the queue. -/
theorem test_witness_lit_values :
    let s : State := { State.reset with pending := [.flasherPhaseChange] }
    s.LitFollows ∧ s.ChainFollows ∧ ∃ t, step s = .next t := ⟨by decide +kernel, by decide +kernel, _, rfl⟩

end Sys2Proof.Tests
end

section
/-! SUPPORT. A request taken at a port: what its row does is what its owning block answers, with the slot BUSY and the
response formed (R184, R185). -/

namespace Sys2Proof.Machine

/-- A reply on a state whose slot is BUSY, formed into its response (R185). -/
theorem State.respond_holdSlot (s : State) (p : Port) (k : RequestKind) (r : Result) (content : List (List Byte)) :
    Reply.respond ⟨s.holdSlot p, r, content⟩ p k.code = s.answered p k r content := by
  simp [Reply.respond, State.holdSlot, State.answered, State.setPort]

/-- A request is taken with nothing in flight between the blocks. -/
theorem State.Takes.quiet {s : State} {p : Port} {k : RequestKind} (takes : s.Takes p k) : s.work.isIdle = true :=
  takes.2.2.2

/-- A request taken does what its owning block answers, where that leaves nothing in flight between the blocks
(R184, R185). -/
theorem State.takeRequest_eq_answered {s t : State} {p : Port} {k : RequestKind} {owner : State → Reply} {r : Result}
    {content : List (List Byte)} (takes : s.Takes p k) (idle : t.work.isIdle = true)
    (answer : owner (s.holdSlot p) = ⟨t.holdSlot p, r, content⟩) :
    s.takeRequest p k true owner = t.answered p k r content := by
  obtain ⟨enabled, empty, listed, -⟩ := takes
  have settled : (t.answered p k r content).settle = t.answered p k r content := State.settle_of_idle idle
  simp [State.takeRequest, enabled, empty, listed, answer, State.respond_holdSlot, settled]

/-- A request that its owning block refuses changes nothing but its slot (R187). -/
theorem State.takeRequest_eq_refused {s : State} {p : Port} {k : RequestKind} {owner : State → Reply} {r : Result}
    (takes : s.Takes p k) (answer : owner (s.holdSlot p) = (s.holdSlot p).refuse r) :
    s.takeRequest p k true owner = s.answered p k r [[]] :=
  State.takeRequest_eq_answered takes takes.quiet answer

/-! ### Group numbers -/

/-- A group number in its range is one above a group's position. -/
theorem exists_groupId_of_mem {n : Nat} (one : 1 ≤ n) (le : n ≤ 24) : ∃ d : GroupId, n = d.val + 1 :=
  ⟨⟨n - 1, by omega⟩, by simp only; omega⟩

/-- One above a group's position is that group's number. -/
@[simp] theorem groupId?_val_add_one (d : GroupId) : groupId? (d.val + 1) = some d :=
  dif_pos ⟨by omega, by omega⟩

/-- A group number out of range names no group. -/
theorem groupId?_of_not_mem {n : Nat} (out : ¬(1 ≤ n ∧ n ≤ 24)) : groupId? n = none := dif_neg out

end Sys2Proof.Machine
end

section
/-! PROOF. WRITE_CONFLICT_ROW (R25): what its row stores, what its block answers, and the obligation. -/

namespace Sys2Proof.Machine

/-! ### The row that is stored -/

/-- Every entry of a row of 24 read as a list. -/
theorem rowEntries_all {row : Vector Nat 24} {f : Nat → Bool} :
    row.toList.all f = true ↔ ∀ g : Fin 24, f row[g] = true := by
  simp [Fin.forall_iff]

/-- A row of intergreens and 255 is stored entry by entry (R25). -/
theorem conflictRow?_of_fits {row : Vector Nat 24} (fits : ∀ g : Fin 24, row[g] ≤ 250 ∨ row[g] = 255) :
    conflictRow? row = some (row.map conflictEntry) :=
  if_pos (rowEntries_all.2 fun g => by simpa using fits g)

/-- A row with an entry that is neither an intergreen nor 255 is not stored (R25). -/
theorem conflictRow?_of_not_fits {row : Vector Nat 24} (ill : ∃ g : Fin 24, 250 < row[g] ∧ row[g] ≠ 255) :
    conflictRow? row = none := by
  obtain ⟨g, above, ne⟩ := ill
  refine if_neg fun all => ?_
  have entry := rowEntries_all.1 all g
  simp only [Bool.or_eq_true, decide_eq_true_eq, beq_iff_eq] at entry
  omega

/-- The matrix after a row is stored: that row's entries by their codes, and every other row as it was (R25). -/
theorem matrix_set_conflictRow (m : Vector (Vector (Option Nat) 24) 24) (row : Vector Nat 24) (d c g : GroupId) :
    (m.set d (row.map conflictEntry))[c][g] =
      if c = d then (if row[g] = 255 then none else some row[g]) else m[c][g] := by
  by_cases same : c = d
  · subst same
    simp [conflictEntry]
  · have ne : d.val ≠ c.val := fun h => same (Fin.ext h.symm)
    simp [same, ne]

/-! ### The Configuration Store's answer -/

section Answer

variable {s : State} {group : Nat} {row : Vector Nat 24}

/-- Outside DARK, FLASH and FAULT_FLASH a row is refused (R25). -/
theorem State.answerWriteConflictRow_of_running (running : s.mc.mode.isIdle = false) :
    s.answerWriteConflictRow group row = s.refuse .wrongMode := by
  simp [State.answerWriteConflictRow, running]

/-- A group or an entry out of range is refused (R25). -/
theorem State.answerWriteConflictRow_of_out_of_range (idle : s.mc.mode.isIdle = true)
    (ill : ¬(1 ≤ group ∧ group ≤ 24) ∨ ∃ g : Fin 24, 250 < row[g] ∧ row[g] ≠ 255) :
    s.answerWriteConflictRow group row = s.refuse .outOfRange := by
  cases ill with
  | inl noGroup => simp [State.answerWriteConflictRow, idle, groupId?_of_not_mem noGroup]
  | inr noRow => simp [State.answerWriteConflictRow, idle, conflictRow?_of_not_fits noRow]

/-- In DARK, FLASH or FAULT_FLASH a group and entries in range have the row stored (R25). -/
theorem State.answerWriteConflictRow_of_fits (d : GroupId) (idle : s.mc.mode.isIdle = true)
    (fits : ∀ g : Fin 24, row[g] ≤ 250 ∨ row[g] = 255) :
    s.answerWriteConflictRow (d.val + 1) row = (s.storeRow d (row.map conflictEntry)).accept := by
  simp [State.answerWriteConflictRow, idle, conflictRow?_of_fits fits]

end Answer

/-- WRITE_CONFLICT_ROW is the request handed to the Configuration Store (R25). -/
theorem exec_writeConflictRow (p : Port) (group : Nat) (row : Vector Nat 24) (s : State) :
    exec (.writeConflictRow p group row) s =
      .next (s.takeRequest p .writeConflictRow true fun s => s.answerWriteConflictRow group row) := rfl

/-- Settles O13, clause by clause: a refusal leaves the state with its slot answered, and an accepted row is stored
by `storeRow`, whose matrix is read by `matrix_set_conflictRow`. -/
theorem writeConflictRowStores : Obligations.WriteConflictRowStores := by
  intro p group row s takes
  refine ⟨fun running => ?_, fun idle ill => ?_, fun idle one le fits => ?_⟩
  · rw [exec_writeConflictRow,
      State.takeRequest_eq_refused takes (State.answerWriteConflictRow_of_running (s := s.holdSlot p) running)]
  · rw [exec_writeConflictRow,
      State.takeRequest_eq_refused takes (State.answerWriteConflictRow_of_out_of_range (s := s.holdSlot p) idle ill)]
  · obtain ⟨d, rfl⟩ := exists_groupId_of_mem one le
    refine ⟨s.tables.matrix.set d (row.map conflictEntry), ?_, fun c g => ?_⟩
    · rw [exec_writeConflictRow,
        State.takeRequest_eq_answered (t := s.storeRow d (row.map conflictEntry)) takes takes.quiet
          (State.answerWriteConflictRow_of_fits (s := s.holdSlot p) d idle fits)]
      rfl
    · simp only [matrix_set_conflictRow, Fin.ext_iff, Nat.add_right_cancel_iff, State.intergreen]

end Sys2Proof.Machine
end

section
/-! SUPPORT. A request that a port's list leaves out, and one that its owning block answers with something left in flight
between the blocks: how its row settles and what its slot then holds (R184 to R186). -/

namespace Sys2Proof.Machine

/-- A request that the port's list leaves out is refused with NOT_PERMITTED (R186). -/
theorem State.takeRequest_eq_not_permitted {s : State} {p : Port} {k : RequestKind} {owner : State → Reply}
    (enabled : s.portEnabled p = true) (empty : (s.ports.get p).busy = false) (unlisted : k.listed p = false) :
    s.takeRequest p k true owner = s.answered p k .notPermitted [[]] := by
  simpa [State.takeRequest, State.refuse, enabled, empty, unlisted] using s.respond_holdSlot p k .notPermitted [[]]

/-- A request taken is handed to its owning block, and then the blocks take one another's reports (R184, R185). -/
theorem State.takeRequest_eq_settle {s : State} {p : Port} {k : RequestKind} (owner : State → Reply)
    (takes : s.Takes p k) : s.takeRequest p k true owner = ((owner (s.holdSlot p)).respond p k.code).settle := by
  obtain ⟨enabled, empty, listed, -⟩ := takes
  simp [State.takeRequest, enabled, empty, listed]

/-- A block that accepts a request and leaves the link records alone leaves the OK response in the slot (R185). -/
theorem State.Kept.responds_ok {s t : State} {p : Port} (kept : (s.holdSlot p).Kept t) (k : RequestKind) :
    (t.accept.respond p k.code).settle.Responds p k .ok := by
  have link := (t.accept.respond p k.code).settle_kept.link p
  have busy : (t.ports.get p).busy = true := by simp [(kept.link p).busy, State.holdSlot]
  exact ⟨link.busy.trans (by simp [Reply.respond, State.accept, busy]),
    link.response.trans (by simp [Reply.respond, State.accept])⟩

end Sys2Proof.Machine
end

section
/-! PROOF. The refusals of SWITCH_ON (R101): what the Mode Controller answers, and the obligation. -/

namespace Sys2Proof.Machine

/-! ### When SWITCH_ON is judged -/

/-- A request from port C without permission FULL is barred (R115). -/
theorem State.barredFull_of_central {s : State} (partly : s.tables.junction.permission ≠ .full) :
    s.barredFull .c = true := by
  simp [State.barredFull, partly]

/-- A request from another port, or with permission FULL, is not (R115). -/
theorem State.barredFull_eq_false_iff (s : State) (p : Port) :
    s.barredFull p = false ↔ (p = .c → s.tables.junction.permission = .full) := by
  simp [State.barredFull]

/-- SWITCH_ON is taken from L in DARK and FLASH and from C in FLASH (R101). -/
theorem switchOnTaken_iff (p : Port) (m : Mode) :
    switchOnTaken p m = true ↔ (p = .l ∧ (m = .dark ∨ m = .flash)) ∨ (p = .c ∧ m = .flash) := by
  cases p <;> cases m <;> simp [switchOnTaken]

/-- Validation does not look at the request slots (R29). -/
@[simp] theorem State.validate_holdSlot (s : State) (p : Port) : (s.holdSlot p).validate = s.validate := rfl

/-! ### The Mode Controller's answer -/

section Answer

variable {s : State} {p : Port}

/-- Without the permission it needs SWITCH_ON is refused before anything else is judged (R101, R115). -/
theorem State.answerSwitchOn_of_barred (barred : s.barredFull p = true) :
    s.answerSwitchOn p = s.refuse .notPermitted := by
  simp [State.answerSwitchOn, barred]

/-- A permitted SWITCH_ON in a mode that does not take it is refused (R101). -/
theorem State.answerSwitchOn_of_not_taken (permitted : s.barredFull p = false)
    (mode : switchOnTaken p s.mc.mode = false) : s.answerSwitchOn p = s.refuse .wrongMode := by
  simp [State.answerSwitchOn, permitted, mode]

/-- A SWITCH_ON on tables that fail a check carries that check and its item and leaves the state (R29, R101, R196). -/
theorem State.answerSwitchOn_of_invalid {f : ConfigFailure} (permitted : s.barredFull p = false)
    (mode : switchOnTaken p s.mc.mode = true) (failing : s.validate = some f) :
    s.answerSwitchOn p = ⟨s, .configInvalid, [f.content]⟩ := by
  simp [State.answerSwitchOn, permitted, mode, failing]

end Answer

/-- SWITCH_ON is the request handed to the Mode Controller (R101). -/
theorem exec_switchOn (p : Port) (s : State) :
    exec (.switchOn p) s = .next (s.takeRequest p .switchOn true fun s => s.answerSwitchOn p) := rfl

/-- Settles O27, refusal by refusal in the order in which they are judged: the port's list, the permission, the mode, the
tables. -/
theorem switchOnRefuses : Obligations.SwitchOnRefuses := by
  refine ⟨fun s empty => ?_, fun p s takes => ⟨fun central partly => ?_, fun elsewhere => ?_, fun f failing here => ?_⟩⟩
  · rw [exec_switchOn, State.takeRequest_eq_not_permitted rfl empty rfl]
  · subst central
    rw [exec_switchOn, State.takeRequest_eq_refused takes
      (State.answerSwitchOn_of_barred (State.barredFull_of_central (s := s.holdSlot .c) partly))]
  · have permitted : (s.holdSlot p).barredFull p = false :=
      (State.barredFull_eq_false_iff _ p).2 (by rintro rfl; simp_all)
    have mode : switchOnTaken p (s.holdSlot p).mc.mode = false := by
      rw [Bool.eq_false_iff, ne_eq, switchOnTaken_iff]
      rcases elsewhere with ⟨rfl, notDark, notFlash⟩ | ⟨rfl, -, notFlash⟩
      · simp [notDark, notFlash]
      · simp [notFlash]
    rw [exec_switchOn, State.takeRequest_eq_refused takes (State.answerSwitchOn_of_not_taken permitted mode)]
  · have permitted : (s.holdSlot p).barredFull p = false :=
      (State.barredFull_eq_false_iff _ p).2 (by rintro rfl; simp_all)
    have mode : switchOnTaken p (s.holdSlot p).mc.mode = true :=
      (switchOnTaken_iff p _).2 (here.imp_right fun ⟨central, flash, _⟩ => ⟨central, flash⟩)
    rw [exec_switchOn, State.takeRequest_eq_answered takes takes.quiet
      (State.answerSwitchOn_of_invalid permitted mode failing), ConfigFailure.content]

end Sys2Proof.Machine
end

section
/-! SUPPORT. A junction at rest: with every group in DARK or FLASH and no call, what an idle mode's entry, its order, a
recomputation and the settling of the moment change is the Mode Controller and the groups' own states, and nothing is
reported that DARK, FLASH or FAULT_FLASH acts on (R20, R43, R46, R100). -/

namespace Sys2Proof.Machine

/-- Every group stands in DARK or FLASH. -/
abbrev State.AtRest (s : State) : Prop := ∀ g, (s.grp g).state = .dark ∨ (s.grp g).state = .flash

/-- Nothing is in flight between the blocks that an idle mode acts on: no move, no priority request, no report but that of
an established stage. -/
structure Work.Inert (w : Work) : Prop where
  moves : w.moves = []
  requests : w.requests = []
  reports : ∀ r ∈ w.reports, ∃ st, r = .established st

/-- What a junction at rest keeps from one state to a later one. -/
structure State.RestsAs (s t : State) : Prop where
  tables : t.tables = s.tables := by rfl
  groups : t.groups = s.groups := by rfl
  mc : t.mc = s.mc := by rfl
  pu : t.pu = s.pu := by rfl
  work : s.work.Inert → t.work.Inert := by exact id

theorem State.RestsAs.refl (s : State) : s.RestsAs s := {}

theorem State.RestsAs.trans {s t u : State} (h : s.RestsAs t) (k : t.RestsAs u) : s.RestsAs u :=
  ⟨k.tables.trans h.tables, k.groups.trans h.groups, k.mc.trans h.mc, k.pu.trans h.pu, k.work ∘ h.work⟩

/-- Groups at rest stay at rest. -/
theorem State.RestsAs.atRest {s t : State} (h : s.RestsAs t) (rest : s.AtRest) : t.AtRest := fun g => by
  rw [State.grp_congr h.groups]; exact rest g

/-- A fold of operations that each leave a junction at rest so. -/
theorem State.RestsAs.foldl {α : Type} {s : State} (f : State → α → State) (l : List α)
    (step : ∀ t a, s.RestsAs t → t.RestsAs (f t a)) : s.RestsAs (l.foldl f s) :=
  List.foldlRecOn l f (motive := fun t => s.RestsAs t) (.refl s) fun t h a _ => h.trans (step t a h)

/-- Nothing in flight is nothing to act on. -/
theorem Work.inert_of_isIdle {w : Work} (idle : w.isIdle = true) : w.Inert := by
  simp only [Work.isIdle, Bool.and_eq_true, List.isEmpty_iff] at idle
  obtain ⟨⟨⟨reports, moves⟩, requests⟩, -⟩ := idle
  exact ⟨moves, requests, by simp [reports]⟩

/-- An established report is nothing that an idle mode acts on. -/
theorem State.report_established_restsAs (s : State) (st : StageId) : s.RestsAs (s.report (.established st)) where
  work inert :=
    { moves := inert.moves, requests := inert.requests
      reports := fun r mem => by
        rcases List.mem_append.1 mem with old | new
        · exact inert.reports r old
        · exact ⟨st, List.mem_singleton.1 new⟩ }

/-- DARK and FLASH keep no conflicting group from gaining (R34). -/
theorem GroupState.inactive_of_rest {g : GroupState} (rest : g = .dark ∨ g = .flash) : g.active = false := by
  rcases rest with rfl | rfl <;> rfl

/-- An idle mode is no signal control mode (R98). -/
theorem Mode.isSignal_of_idle {m : Mode} (idle : m.isIdle = true) : m.isSignal = false := by
  cases m <;> simp_all [Mode.isIdle, Mode.isSignal]

/-- In an idle mode no target change is a transition start (R61). -/
theorem Mode.transitions_of_idle {m : Mode} (idle : m.isIdle = true) : m.transitions = false := by
  cases m <;> simp_all [Mode.isIdle, Mode.transitions]

/-! ### Lamp outputs and the transition status -/

/-- A channel's lit value formed anew touches no block but the Output Unit and the Lamp Monitor (R167, R171). -/
theorem State.refreshOutput_restsAs (s : State) (o : OutId) : s.RestsAs (s.refreshOutput o) := by
  simp only [State.refreshOutput, State.driveChange]
  split
  · exact .refl s
  · split <;> exact {}

theorem State.refreshOutputs_restsAs (s : State) : s.RestsAs s.refreshOutputs :=
  .foldl _ outIds fun t o _ => t.refreshOutput_restsAs o

/-- A group that is not in STOP is not red-out (R175). -/
theorem State.redLost_of_atRest {s : State} (rest : s.AtRest) (g : GroupId) : s.redLost g = false := by
  rcases rest g with h | h <;> simp [State.redLost, h]

/-- A red-out judgement on a group at rest reports nothing (R175). -/
theorem State.judgeRedOut_restsAs {s : State} (rest : s.AtRest) (g : GroupId) : s.RestsAs (s.judgeRedOut g) := by
  simp only [State.judgeRedOut, State.redLost_of_atRest rest, Bool.false_and, Bool.false_eq_true, if_false]
  exact {}

/-- The transition status judged reports at most an established stage (R43). -/
theorem State.judgeStatus_restsAs (s : State) : s.RestsAs s.judgeStatus := by
  simp only [State.judgeStatus]
  split
  · split
    · exact {}
    · exact .trans {} (State.report_established_restsAs _ _)
  · exact {}

/-! ### Groups -/

/-- With every group at rest no start timer is set anew (R36). -/
theorem State.startMoves_of_atRest {s : State} (rest : s.AtRest) (g : GroupId) : s.startMoves g = [] := by
  have unstopped : ∀ c, (s.conflicts g c && (s.grp c).state == .stop && (s.grp c).gaining) = false := fun c => by
    rcases rest c with h | h <;> simp [h]
  simp [State.startMoves, groupsWhere, unstopped]

/-- A change between DARK and FLASH is reported to the lamps and the Arbiter alone (R7). -/
theorem State.reportChange_of_atRest {s : State} (rest : s.AtRest) (g : GroupId) {old : GroupState}
    (inactive : old.active = false) : s.reportChange g old = (s.refreshOutputs.judgeRedOut g).judgeStatus := by
  have lit := s.refreshOutputs_restsAs
  have judged := lit.trans ((State.judgeRedOut_restsAs (lit.atRest rest) g).trans (State.judgeStatus_restsAs _))
  have moves := State.startMoves_of_atRest (judged.atRest rest) g
  have still : (s.grp g).state.active = false := GroupState.inactive_of_rest (rest g)
  rcases rest g with h | h <;> rw [h] at still <;>
    simp [State.reportChange, h, inactive, still, moves, State.moveAll]

theorem State.reportChange_restsAs {s : State} (rest : s.AtRest) (g : GroupId) {old : GroupState}
    (inactive : old.active = false) : s.RestsAs (s.reportChange g old) := by
  have lit := s.refreshOutputs_restsAs
  rw [State.reportChange_of_atRest rest g inactive]
  exact lit.trans ((State.judgeRedOut_restsAs (lit.atRest rest) g).trans (State.judgeStatus_restsAs _))

/-- The FLASH or DARK order taken by every group, before any change is reported (R20). -/
def State.takeOrder (s : State) (o : Order) : State :=
  { s with groups := Vector.ofFn fun g : GroupId => s.groups[g].ordered o (s.kind g) }

@[simp] theorem State.takeOrder_tables (s : State) (o : Order) : (s.takeOrder o).tables = s.tables := by
  simp only [State.takeOrder]
@[simp] theorem State.takeOrder_mc (s : State) (o : Order) : (s.takeOrder o).mc = s.mc := by
  simp only [State.takeOrder]
@[simp] theorem State.takeOrder_pu (s : State) (o : Order) : (s.takeOrder o).pu = s.pu := by
  simp only [State.takeOrder]
@[simp] theorem State.takeOrder_work (s : State) (o : Order) : (s.takeOrder o).work = s.work := by
  simp only [State.takeOrder]

@[simp] theorem State.grp_takeOrder (s : State) (o : Order) (g : GroupId) :
    (s.takeOrder o).grp g = (s.grp g).ordered o (s.kind g) := by
  simp [State.takeOrder, State.grp]

/-- A used group at rest takes the state that the order names for its kind at once (R20). -/
theorem GroupRun.ordered_state_of_atRest {r : GroupRun} (rest : r.state = .dark ∨ r.state = .flash) (o : Order)
    {kind : Kind} (used : kind ≠ .unused) : (r.ordered o kind).state = o.stateFor kind := by
  rcases rest with h | h <;> simp [GroupRun.ordered, used, h]

/-- An order names DARK or FLASH (R20). -/
theorem Order.stateFor_rest (o : Order) (kind : Kind) : o.stateFor kind = .dark ∨ o.stateFor kind = .flash := by
  cases o <;> cases kind <;> simp [Order.stateFor]

theorem State.takeOrder_atRest {s : State} (rest : s.AtRest) (o : Order) : (s.takeOrder o).AtRest := fun g => by
  rw [State.grp_takeOrder]
  by_cases unused : s.kind g = .unused
  · simpa [GroupRun.ordered, unused] using rest g
  · rw [GroupRun.ordered_state_of_atRest (rest g) o unused]
    exact o.stateFor_rest _

theorem State.RestsAs.takeOrder {s t : State} (h : s.RestsAs t) (o : Order) :
    (s.takeOrder o).RestsAs (t.takeOrder o) where
  tables := by simp [h.tables]
  groups := by simp only [State.takeOrder, h.groups, State.kind_congr h.tables]
  mc := by simp [h.mc]
  pu := by simp [h.pu]
  work := by simpa using h.work

/-- An order given at rest is taken by every group, and its reports change nothing more (R20). -/
theorem State.giveOrder_restsAs {s : State} (rest : s.AtRest) (o : Order) :
    (s.takeOrder o).RestsAs (s.giveOrder o) := by
  simp only [State.giveOrder, State.orderAll]
  refine State.RestsAs.foldl (s := s.takeOrder o) _ groupIds fun t g same => ?_
  have inactive : (s.grp g).state.active = false := GroupState.inactive_of_rest (rest g)
  split
  · exact .refl t
  · exact State.reportChange_restsAs (same.atRest (State.takeOrder_atRest rest o)) g inactive

/-! ### The target -/

/-- A target change touches no group at rest (R57). -/
theorem GroupRun.retarget_of_rest {r : GroupRun} (rest : r.state = .dark ∨ r.state = .flash) (kind : Kind)
    (belongs : Bool) : r.retarget kind belongs = r := by
  rcases rest with h | h <;> simp [GroupRun.retarget, h]

/-- A target change gives a group at rest nothing to do (R57). -/
theorem GroupRun.retargetMove_of_rest {r : GroupRun} (rest : r.state = .dark ∨ r.state = .flash) (kind : Kind)
    (belongs : Bool) (g : GroupId) : r.retargetMove kind belongs g = none := by
  rcases rest with h | h <;> simp [GroupRun.retargetMove, h]

/-- A target change at rest changes no group (R57). -/
theorem State.handTarget_restsAs {s : State} (rest : s.AtRest) (st : StageId) : s.RestsAs (s.handTarget st) := by
  refine ⟨(s.handTarget_kept st).tables, ?_, by simp [State.handTarget], by simp [State.handTarget], fun inert => ?_⟩
  · refine Vector.ext fun i hi => ?_
    simp only [State.handTarget, State.moveAll_groups, Vector.getElem_ofFn]
    exact GroupRun.retarget_of_rest (rest ⟨i, hi⟩) _ _
  · have work : (s.handTarget st).work = s.work := by
      simp [State.handTarget, GroupRun.retargetMove_of_rest (rest _)]
    rwa [work]

/-- In an idle mode a recomputation is no transition start and leaves groups at rest as they are (R45, R48, R61). -/
theorem State.recompute_restsAs {s : State} (rest : s.AtRest) (idle : s.mc.mode.isIdle = true) :
    s.RestsAs (s.recompute false) := by
  simp only [State.recompute, State.changeTarget, Mode.transitions_of_idle idle, Bool.false_and, Bool.false_eq_true,
    if_false]
  split
  · exact .refl s
  · have judged := State.RestsAs.trans (s := s) (t := { s with arb := { s.arb with target := s.arb.choice } }) {}
      (State.judgeStatus_restsAs _)
    exact (judged.trans (State.handTarget_restsAs (judged.atRest rest) _)).trans
      { work := fun inert => ⟨inert.moves, inert.requests, inert.reports⟩ }

/-! ### The entry to an idle mode -/

/-- The state without calls whose mode becomes an idle one, but for the Arbiter, the Standby Unit, the lamps and the
events (R96, R100). -/
def State.enteredIdle (s : State) (new : Mode) : State :=
  { s with
    mc := s.mc.entered new
    pu := { s.pu with calls := [], stack := [], recovery := none, resumedMark := false, served := 0 }
    work := { s.work with requests := [] } }

/-- With no call a teardown withdraws what the Priority Unit holds and does nothing else (R96). -/
theorem State.teardown_of_no_calls {s : State} (calls : s.pu.calls = []) :
    s.teardown =
      { s with
        pu := { s.pu with calls := [], stack := [], recovery := none, resumedMark := false, served := 0 }
        arb := { s.arb with priorityRequest := none }
        work := { s.work with requests := [] } } := by
  simp [State.teardown, State.actingCall?, calls]

theorem State.leaveDark_restsAs (s : State) : s.RestsAs s.leaveDark :=
  .trans {} (State.refreshOutputs_restsAs _)

/-- The entry to an idle mode without calls (R100). -/
theorem State.changeMode_restsAs {s : State} {new : Mode} (idle : new.isIdle = true) (calls : s.pu.calls = []) :
    (s.enteredIdle new).RestsAs (s.changeMode new) := by
  have torn (a : Arbiter) : (s.enteredIdle new).RestsAs
      ({ s with mc := s.mc.entered new, arb := a }.post .mode new.code).teardown := by
    rw [State.teardown_of_no_calls (by simpa using calls)]
    exact {}
  simp only [State.changeMode, Mode.isSignal_of_idle idle, idle, Bool.true_or, Bool.false_eq_true, if_true, if_false]
  have stopped (t : State) (c : Prop) [Decidable c] : t.RestsAs (if c then { t with sb := Standby.reset } else t) := by
    split <;> exact {}
  have left (t : State) (c : Prop) [Decidable c] : t.RestsAs (if c then t.leaveDark else t) := by
    split
    · exact t.leaveDark_restsAs
    · exact .refl t
  exact ((torn _).trans (stopped _ _)).trans (left _ _)

/-- An entered idle mode is the mode (R100). -/
theorem ModeControl.entered_of_idle (m : ModeControl) {new : Mode} (idle : new.isIdle = true) :
    (m.entered new).mode = new ∧ (m.entered new).faultLine = decide (new = .faultFlash) := by
  simp [ModeControl.entered, idle]

/-- The entry to FLASH of a junction at rest: the mode's own fields and the groups' order, and no more (R20, R111). -/
theorem State.enterFlash_restsAs {s : State} (rest : s.AtRest) (calls : s.pu.calls = []) :
    ((s.enteredIdle .flash).takeOrder .flash).RestsAs s.enterFlash := by
  have entered := State.changeMode_restsAs (new := .flash) rfl calls
  have ordered := (entered.takeOrder .flash).trans (State.giveOrder_restsAs (entered.atRest rest) .flash)
  refine ordered.trans (State.recompute_restsAs (ordered.atRest (State.takeOrder_atRest rest .flash)) ?_)
  rw [ordered.mc]
  exact congrArg Mode.isIdle (s.mc.entered_of_idle rfl).1

/-! ### Settling -/

/-- An established report has no effect in an idle mode (R104, R124). -/
theorem State.takeReportEstablished_of_idle {s : State} (idle : s.mc.mode.isIdle = true) (st : StageId) :
    s.takeReportEstablished st = s := by
  cases h : s.mc.mode <;> simp_all [State.takeReportEstablished, Mode.isIdle]

/-- One settling step of an idle mode takes an established report or a pass over no call, or does nothing. -/
theorem State.settleStep_restsAs {s : State} (idle : s.mc.mode.isIdle = true) (calls : s.pu.calls = [])
    (inert : s.work.Inert) : s.RestsAs s.settleStep := by
  simp only [State.settleStep, inert.moves, inert.requests]
  cases reports : s.work.reports with
  | cons r rest =>
    obtain ⟨st, rfl⟩ := inert.reports r (by simp [reports])
    simp only [State.takeReport]
    rw [State.takeReportEstablished_of_idle (by exact idle)]
    exact { work := fun _ => ⟨rfl, rfl, fun r mem => inert.reports r (by simp [reports, mem])⟩ }
  | nil =>
    simp only [State.pass, calls, List.map_nil, List.foldl_nil]
    split
    · exact { work := fun _ => ⟨rfl, rfl, by simp⟩ }
    · exact .refl s

/-- The settling of a moment leaves a junction at rest in an idle mode as it is. -/
theorem State.settle_restsAs {s : State} (idle : s.mc.mode.isIdle = true) (calls : s.pu.calls = [])
    (inert : s.work.Inert) : s.RestsAs s.settle :=
  State.settle_induct (P := fun t => s.RestsAs t)
    (fun _ h => h.trans (State.settleStep_restsAs (h.mc ▸ idle) (h.pu ▸ calls) (h.work inert))) (.refl s)

end Sys2Proof.Machine
end

section
/-! PROOF. FAULT_RESET (R111): what the Mode Controller answers, and the obligation. -/

namespace Sys2Proof.Machine

/-- FAULT_RESET is the request handed to the Mode Controller (R111). -/
theorem exec_faultReset (p : Port) (s : State) :
    exec (.faultReset p) s = .next (s.takeRequest p .faultReset true fun s => s.answerFaultReset) := rfl

/-- FAULT_RESET is in port L's list alone (R186). -/
theorem faultReset_listed_iff (p : Port) : RequestKind.faultReset.listed p = true ↔ p = .l := by
  cases p <;> simp [RequestKind.listed]

/-- In FAULT_FLASH, with no conflict in the latest sample, the junction enters FLASH (R111). -/
theorem State.answerFaultReset_of_clear {s : State} (mode : s.mc.mode = .faultFlash)
    (clear : s.lm.latestConflict = false) : s.answerFaultReset = s.enterFlash.accept :=
  if_pos ⟨mode, clear⟩

/-- Elsewhere, or with a conflict in the latest sample, FAULT_RESET is refused (R111). -/
theorem State.answerFaultReset_of_not_clear {s : State}
    (other : s.mc.mode ≠ .faultFlash ∨ s.lm.latestConflict = true) : s.answerFaultReset = s.refuse .wrongMode :=
  if_neg fun ⟨mode, clear⟩ => other.elim (· mode) fun conflict => Bool.noConfusion (conflict.symm.trans clear)

/-- The entry to FLASH of a junction at rest, its response formed and its reports taken: FLASH, the fault line inactive,
every used group in the state that the order names for its kind (R20, R100, R111). -/
theorem State.enterFlash_settled {s : State} {p : Port} {kind : Byte} (rest : s.AtRest) (calls : s.pu.calls = [])
    (quiet : s.work.isIdle = true) :
    let t := (s.enterFlash.accept.respond p kind).settle
    t.mc.mode = .flash ∧ t.mc.faultLine = false ∧
      ∀ g, s.kind g ≠ .unused → (t.grp g).state = Order.flash.stateFor (s.kind g) := by
  intro t
  obtain ⟨mode, line⟩ := s.mc.entered_of_idle (new := .flash) rfl
  have formed : ((s.enteredIdle .flash).takeOrder .flash).RestsAs (s.enterFlash.accept.respond p kind) :=
    (State.enterFlash_restsAs rest calls).trans {}
  have work : ((s.enteredIdle .flash).takeOrder .flash).work.Inert :=
    ⟨(Work.inert_of_isIdle quiet).moves, rfl, (Work.inert_of_isIdle quiet).reports⟩
  have settled : ((s.enteredIdle .flash).takeOrder .flash).RestsAs t :=
    formed.trans (State.settle_restsAs (by rw [formed.mc]; exact congrArg Mode.isIdle mode) (by rw [formed.pu]; rfl)
      (formed.work work))
  refine ⟨settled.mc ▸ mode, settled.mc ▸ line, fun g used => ?_⟩
  rw [State.grp_congr settled.groups, State.grp_takeOrder]
  exact GroupRun.ordered_state_of_atRest (rest g) .flash used

/-- The FLASH order puts VEHICLE groups in FLASH and the others in DARK (R20). -/
theorem Order.stateFor_flash (kind : Kind) :
    Order.flash.stateFor kind = if kind = .vehicle then .flash else .dark := by
  cases kind <;> rfl

/-- Settles O30: the groups of FAULT_FLASH are at rest and there is no call, so what is left of the reset is the entry to
FLASH that `enterFlash_settled` gives; every other FAULT_RESET is refused. -/
theorem faultResetReturnsToFlash : Obligations.FaultResetReturnsToFlash := by
  refine ⟨fun q s ne enabled empty => ?_, fun p s takes => ⟨fun mode clear quiet fit => ?_, fun other => ?_⟩⟩
  · have unlisted : RequestKind.faultReset.listed q = false :=
      Bool.eq_false_iff.2 fun listed => ne ((faultReset_listed_iff q).1 listed)
    rw [exec_faultReset, State.takeRequest_eq_not_permitted enabled empty unlisted]
  · have rest : (s.holdSlot p).AtRest := fun g => (quiet (by simp [mode, Mode.isIdle]) g).1
    have calls : (s.holdSlot p).pu.calls = [] := (fit (by simp [mode, Mode.isSignal])).1
    obtain ⟨flash, line, states⟩ :=
      State.enterFlash_settled (p := p) (kind := RequestKind.faultReset.code) rest calls takes.quiet
    refine ⟨_, ?_, (State.enterFlash_kept (s.holdSlot p)).responds_ok .faultReset, flash, line, fun g used => ?_⟩
    · rw [exec_faultReset, State.takeRequest_eq_settle _ takes,
        State.answerFaultReset_of_clear (s := s.holdSlot p) mode clear]
    · exact (states g used).trans (Order.stateFor_flash _)
  · rw [exec_faultReset,
      State.takeRequest_eq_refused takes (State.answerFaultReset_of_not_clear (s := s.holdSlot p) other)]

end Sys2Proof.Machine
end

section
/-! SUPPORT. What the Loop Scanner reads of the state: the bank records, the detector assignments, the visits in flight and
the channels. For each answer and each event of another block, that it leaves them as they were (R133 to R137). -/

namespace Sys2Proof.Machine

/-- Two states with the same banks, detector assignments and visits in flight (R133, R137, R152). -/
structure State.SameVisits (s t : State) : Prop where
  banks : t.tables.banks = s.tables.banks := by rfl
  detectors : t.tables.detectors = s.tables.detectors := by rfl
  engines : t.engines = s.engines := by rfl

/-- Two states that the Loop Scanner does not tell apart: the channels are the same too (R135). -/
structure State.SameScan (s t : State) : Prop where
  visits : s.SameVisits t := by exact {}
  chans : t.chans = s.chans := by rfl

namespace State.SameVisits

theorem refl (s : State) : s.SameVisits s := {}

theorem trans {s t u : State} (h : s.SameVisits t) (k : t.SameVisits u) : s.SameVisits u :=
  ⟨k.banks.trans h.banks, k.detectors.trans h.detectors, k.engines.trans h.engines⟩

theorem bank {s t : State} (h : s.SameVisits t) (b : BankId) : t.bank b = s.bank b := by
  simp only [State.bank, h.banks]

theorem chanEnabled {s t : State} (h : s.SameVisits t) (ch : ChanId) : t.chanEnabled ch = s.chanEnabled ch := by
  simp only [State.chanEnabled, h.detectors]

end State.SameVisits

namespace State.SameScan

theorem refl (s : State) : s.SameScan s := {}

theorem trans {s t u : State} (h : s.SameScan t) (k : t.SameScan u) : s.SameScan u :=
  ⟨h.visits.trans k.visits, k.chans.trans h.chans⟩

/-- An operation done or not done. -/
theorem ite {s : State} {c : Prop} [Decidable c] {t u : State} (h : s.SameScan t) (k : s.SameScan u) :
    s.SameScan (if c then t else u) := by
  split <;> assumption

end State.SameScan

/-- What settling leaves as it was includes all that the Loop Scanner reads. -/
theorem State.Kept.sameScan {s t : State} (h : s.Kept t) : s.SameScan t :=
  ⟨⟨congrArg Tables.banks h.tables, congrArg Tables.detectors h.tables, h.engines⟩, h.chans⟩

/-- A block's reply to a request that touches nothing the Loop Scanner reads. -/
structure State.SpareReply (s : State) (r : Reply) : Prop where
  sameScan : s.SameScan r.state := by exact .refl _

namespace State.SpareReply

theorem refuse (s : State) (r : Result) : s.SpareReply (s.refuse r) := {}

theorem accept {s t : State} (h : s.SameScan t) : s.SpareReply t.accept := ⟨h⟩

theorem ite {s : State} {c : Prop} [Decidable c] {r q : Reply} (h : s.SpareReply r) (k : s.SpareReply q) :
    s.SpareReply (if c then r else q) := by
  split <;> assumption

end State.SpareReply

/-! ### The answers of the Mode Controller (R101 to R121) -/

theorem State.answerSwitchOn_spare (s : State) (p : Port) : s.SpareReply (s.answerSwitchOn p) := by
  refine .ite (.refuse s _) (.ite (.refuse s _) ?_)
  split
  · exact {}
  · exact .accept (s.enterStartup_kept p).sameScan

theorem State.answerSwitchFlash_spare (s : State) (p : Port) : s.SpareReply (s.answerSwitchFlash p) := by
  refine .ite (.refuse s _) ?_
  cases s.mc.mode with
  | startup | localMode | centralMode | standby => exact .accept (s.enterClosing_kept _).sameScan
  | closing => exact .accept {}
  | flash => exact .accept (.refl s)
  | dark => exact .ite (.accept s.enterFlash_kept.sameScan) (.refuse s _)
  | faultFlash => exact .refuse s _

theorem State.answerSwitchOff_spare (s : State) : s.SpareReply s.answerSwitchOff := by
  unfold State.answerSwitchOff
  cases s.mc.mode with
  | startup | localMode | centralMode | standby => exact .accept (s.enterClosing_kept _).sameScan
  | closing => exact .accept {}
  | flash => exact .accept s.enterDark_kept.sameScan
  | dark => exact .accept (.refl s)
  | faultFlash => exact .refuse s _

theorem State.answerFaultReset_spare (s : State) : s.SpareReply s.answerFaultReset :=
  .ite (.accept s.enterFlash_kept.sameScan) (.refuse s _)

/-- A RESTART keeps the tables, the channels and their visits (R112). -/
theorem State.restarted_sameScan (s : State) : s.SameScan s.restarted := by
  simp only [State.restarted]
  exact .trans {} (State.refreshOutputs_kept _).sameScan

theorem State.answerRestart_spare (s : State) : s.SpareReply s.answerRestart :=
  .ite (.accept s.restarted_sameScan) (.refuse s _)

theorem State.takeDemand_sameScan (s : State) (p : Port) (st : StageId) : s.SameScan (s.takeDemand p st) := by
  simp only [State.takeDemand]
  have plain : s.SameScan (({ s.markStale with
      arb := { s.markStale.arb with demand := some st, returnTarget := none } }.refreshPort p).recompute false) :=
    .trans {} ((State.refreshPort_kept _ p).trans (State.recompute_kept _ _)).sameScan
  cases s.markStale.mc.mode with
  | standby => exact (s.markStale_kept.trans ((State.enterLocal_kept _ _).trans (State.refreshPort_kept _ p))).sameScan
  | dark | flash | faultFlash | startup | localMode | centralMode | closing => exact plain

theorem State.answerStageDemand_spare (s : State) (p : Port) (stage : Nat) :
    s.SpareReply (s.answerStageDemand p stage) := by
  refine .ite (.refuse s _) (.ite (.refuse s _) (.ite ⟨(s.refreshPort_kept p).sameScan⟩ ?_))
  split
  · exact .ite (.accept (s.takeDemand_sameScan p _)) (.refuse s _)
  · exact .refuse s _

theorem State.answerRefresh_spare (s : State) (p : Port) : s.SpareReply (s.answerRefresh p) :=
  .ite (.refuse s _) (.accept (s.refreshPort_kept p).sameScan)

theorem State.answerSelectPlan_spare (s : State) (p : Port) (plan : Nat) :
    s.SpareReply (s.answerSelectPlan p plan) := by
  refine .ite (.refuse s _) (.ite (.refuse s _) ?_)
  split
  · exact .accept {}
  · exact .refuse s _

theorem State.answerLocalReclaim_spare (s : State) : s.SpareReply s.answerLocalReclaim := by
  unfold State.answerLocalReclaim
  cases s.mc.mode with
  | centralMode => exact .accept ((s.enterLocal_kept none).trans (State.refreshPort_kept _ .l)).sameScan
  | localMode => exact .accept (s.refreshPort_kept .l).sameScan
  | dark | flash | faultFlash | startup | standby | closing => exact .refuse s _

theorem State.answerTakeControl_spare (s : State) : s.SpareReply s.answerTakeControl := by
  refine .ite (.refuse s _) ?_
  cases s.mc.mode with
  | localMode | standby => exact .accept (s.enterCentral_kept.trans (State.refreshPort_kept _ .c)).sameScan
  | centralMode => exact .accept (s.refreshPort_kept .c).sameScan
  | dark | flash | faultFlash | startup | closing => exact .refuse s _

theorem State.answerReleaseControl_spare (s : State) : s.SpareReply s.answerReleaseControl :=
  .ite (.refuse s _) (.ite (.accept s.fallThrough_kept.sameScan) (.refuse s _))

/-! ### The writes of other tables (R4, R25, R26, R166, R169, R190, R191) -/

theorem State.moveToKind_kept (s : State) (g : GroupId) (k : Kind) : s.Kept (s.moveToKind g k) :=
  .ite (.refl s) ((s.setGrp_kept g _).trans (State.reportChange_kept _ g _))

theorem State.storeGroup_sameScan (s : State) (g : GroupId) (c : GroupConfig) : s.SameScan (s.storeGroup g c) := by
  simp only [State.storeGroup]
  refine State.SameScan.trans (t := { s with tables := { s.tables with groups := s.tables.groups.set g c } }) {} ?_
  generalize ({ s with tables := { s.tables with groups := s.tables.groups.set g c } } : State) = t
  have judged : t.Kept ((if s.kind g = c.kind then t else t.moveToKind g c.kind).refreshOutputs.judgeRedOut g) :=
    (State.Kept.ite (.refl t) (t.moveToKind_kept g _)).trans
      ((State.refreshOutputs_kept _).trans (State.judgeRedOut_kept _ g))
  exact (State.Kept.ite (judged.trans (State.clearLatch_kept _ g)) (judged.trans (State.judgeDemand_kept _))).sameScan

theorem State.answerWriteGroup_spare (s : State) (w : GroupWrite) : s.SpareReply (s.answerWriteGroup w) := by
  refine .ite (.refuse s _) ?_
  split
  · exact .accept (s.storeGroup_sameScan _ _)
  · exact .refuse s _

theorem State.answerWriteConflictRow_spare (s : State) (group : Nat) (row : Vector Nat 24) :
    s.SpareReply (s.answerWriteConflictRow group row) := by
  refine .ite (.refuse s _) ?_
  split
  · exact .accept {}
  · exact .refuse s _

theorem State.answerWriteStage_spare (s : State) (stage mark : Nat) (set : BitVec 32) :
    s.SpareReply (s.answerWriteStage stage mark set) := by
  refine .ite (.refuse s _) ?_
  split
  · exact .accept {}
  · exact .refuse s _

theorem State.storeJunction_sameScan (s : State) (j : Junction) : s.SameScan (s.storeJunction j) :=
  .ite (.trans (t := { s with tables := { s.tables with junction := j } }) {} (State.fallThrough_kept _).sameScan) {}

theorem State.answerWriteJunction_spare (s : State) (w : JunctionWrite) : s.SpareReply (s.answerWriteJunction w) := by
  unfold State.answerWriteJunction
  split
  · exact .refuse s _
  · exact .ite (.refuse s _) (.accept (s.storeJunction_sameScan _))

theorem State.judgeStopSource_kept (s : State) (c : Source) : s.Kept (s.judgeStopSource c) := by
  cases c with
  | groupRole g r =>
    cases r with
    | stop => exact s.judgeRedOut_kept g
    | warn | go => exact .refl s
  | off | on | flasherA | flasherB | callAck _ | detector _ => exact .refl s

theorem State.storeOutput_sameScan (s : State) (o : OutId) (c : OutputConfig) : s.SameScan (s.storeOutput o c) := by
  simp only [State.storeOutput]
  refine State.SameScan.trans (t := { s with tables := { s.tables with outputs := s.tables.outputs.set o c } }) {} ?_
  have loaded (t : State) : t.SameScan ((t.refreshOutput o).loadChannel o) :=
    (t.refreshOutput_kept o).sameScan.trans {}
  exact .ite (loaded _)
    ((loaded _).trans ((State.judgeStopSource_kept _ _).trans (State.judgeStopSource_kept _ _)).sameScan)

theorem State.answerWriteOutput_spare (s : State) (w : OutputWrite) : s.SpareReply (s.answerWriteOutput w) := by
  refine .ite (.refuse s _) ?_
  split
  · exact .accept (s.storeOutput_sameScan _ _)
  · exact .refuse s _

theorem State.answerForceOutput_spare (s : State) (channel force : Nat) :
    s.SpareReply (s.answerForceOutput channel force) := by
  refine .ite (.refuse s _) ?_
  split
  · exact .accept (.trans {} (State.refreshOutput_kept _ _).sameScan)
  · exact .refuse s _

theorem State.answerWritePlan_spare (s : State) (w : PlanWrite) : s.SpareReply (s.answerWritePlan w) := by
  unfold State.answerWritePlan
  split
  · exact .refuse s _
  · exact .ite (.refuse s _) (.ite (.accept {}) (.refuse s _))

/-! ### The reads and the events of a port (R162, R189, R193) -/

theorem State.answerReadTable_spare (s : State) (table index : Nat) : s.SpareReply (s.answerReadTable table index) := by
  unfold State.answerReadTable
  split
  · exact {}
  · exact .refuse s _

theorem State.answerReadCounts_spare (s : State) (p : Port) (clear : Nat) :
    s.SpareReply (s.answerReadCounts p clear) := by
  unfold State.answerReadCounts
  split
  · exact .refuse s _
  · exact {}
  · exact .ite ⟨{}⟩ (.refuse s _)

theorem State.answerClearEvents_spare (s : State) (p : Port) (set : BitVec 32) :
    s.SpareReply (s.answerClearEvents p set) := by
  unfold State.answerClearEvents
  split
  · exact .accept {}
  · exact .refuse s _

theorem State.answerSetEventMask_spare (s : State) (p : Port) (set : BitVec 32) :
    s.SpareReply (s.answerSetEventMask p set) := by
  unfold State.answerSetEventMask
  split
  · exact .accept {}
  · exact .refuse s _

/-! ### The answers of the Priority Unit (R68 to R71) -/

theorem State.insertCall_sameScan (s : State) (w : Checkin) (g : GroupId) : s.SameScan (s.insertCall w g) := by
  simp only [State.insertCall]
  exact .trans {} (State.refreshOutputs_kept _).sameScan

theorem State.updateCheckin_sameScan (s : State) (w : Checkin) (c : Call) : s.SameScan (s.updateCheckin w c) := by
  simp only [State.updateCheckin]
  have put (l : List Call) : s.SameScan { s with pu := { s.pu with calls := l } }.refreshOutputs :=
    .trans {} (State.refreshOutputs_kept _).sameScan
  exact .ite ((put _).trans ((State.setGrp_kept _ _ _).trans (State.move_kept _ _)).sameScan) (put _)

theorem State.checkedIn_kept (s : State) : s.Kept s.checkedIn := s.activity_kept.trans (State.evaluateCalls_kept _)

theorem State.answerNewCall_spare (s : State) (w : Checkin) (g : GroupId) : s.SpareReply (s.answerNewCall w g) := by
  have inserted (t : State) : t.SameScan (t.insertCall w g).checkedIn :=
    (t.insertCall_sameScan w g).trans (State.checkedIn_kept _).sameScan
  refine .ite (.accept (inserted s)) ?_
  split
  · exact .ite (.accept (((s.removeCall_kept _).trans (State.post_kept _ _ _)).sameScan.trans (inserted _))) (.refuse s _)
  · exact .refuse s _

theorem State.answerCallCheckin_spare (s : State) (w : Checkin) : s.SpareReply (s.answerCallCheckin w) := by
  unfold State.answerCallCheckin
  split
  · exact .refuse s _
  · refine .ite (.refuse s _) (.ite (.refuse s _) ?_)
    split
    · exact .ite (.accept ((s.updateCheckin_sameScan w _).trans (State.checkedIn_kept _).sameScan)) (.refuse s _)
    · exact s.answerNewCall_spare w _

theorem State.answerWithdraw_spare (s : State) (tram : Nat) : s.SpareReply (s.answerWithdraw tram) := by
  unfold State.answerWithdraw
  split
  · exact .accept (s.removeCall_kept _).sameScan
  · exact .refuse s _

/-! ### The timer events of groups and units -/

/-- An event at the group that a number names. -/
theorem State.atGroup_kept (s : State) (group : Nat) {f : GroupId → State} (event : ∀ g, s.Kept (f g)) :
    s.Kept (s.atGroup group f) := by
  unfold State.atGroup
  split
  · exact event _
  · exact .refl s

theorem State.judgeStepFor_kept (s : State) (g : GroupId) : s.Kept (s.judgeStepFor g) :=
  .ite s.judgeStep_kept (.refl s)

theorem State.expireStart_kept (s : State) (g : GroupId) : s.Kept (s.expireStart g) :=
  .ite (.ite (s.stepOut_kept g) (s.setGrp_kept _ _)) (.refl s)

theorem State.expirePrepare_kept (s : State) (g : GroupId) : s.Kept (s.expirePrepare g) :=
  .ite (s.startGo_kept g) (.refl s)

theorem State.expireMinGo_kept (s : State) (g : GroupId) : s.Kept (s.expireMinGo g) :=
  .ite (((s.setGrp_kept g _).trans (State.judgeStepFor_kept _ g)).trans (State.move_kept _ _)) (.refl s)

theorem State.expireClear_kept (s : State) (g : GroupId) : s.Kept (s.expireClear g) :=
  .ite (s.enterStop_kept g) (.refl s)

theorem State.expireMinStop_kept (s : State) (g : GroupId) : s.Kept (s.expireMinStop g) :=
  .ite (s.setGrp_kept g _) (.refl s)

theorem State.reachMaxGo_kept (s : State) (g : GroupId) : s.Kept (s.reachMaxGo g) :=
  .ite (s.judgeStepFor_kept g) (.refl s)

theorem State.expireStartupRed_kept (s : State) : s.Kept s.expireStartupRed :=
  .ite (.trans {} (State.recompute_kept _ _)) (.refl s)

theorem State.expireClosingRed_kept (s : State) : s.Kept s.expireClosingRed := by
  refine .ite ?_ (.refl s)
  split
  · exact s.enterDark_kept
  · exact s.enterFlash_kept
  · exact .refl s

theorem State.lapseLocal_kept (s : State) : s.Kept s.lapseLocal := by
  simp only [State.lapseLocal]
  have posted : s.Kept
      ({ s with mc := { s.mc with localTimer := none, localAlive := false } }.post .lapseLocal s.mc.mode.code) :=
    .trans {} (State.post_kept _ _ _)
  exact .ite (.ite (posted.trans (State.enterFallback_kept _)) posted) (.refl s)

theorem State.lapseCentral_kept (s : State) : s.Kept s.lapseCentral := by
  simp only [State.lapseCentral]
  have posted : s.Kept
      ({ s with mc := { s.mc with centralTimer := none, centralAlive := false } }.post .lapseCentral s.mc.mode.code) :=
    .trans {} (State.post_kept _ _ _)
  exact .ite (.ite (posted.trans (State.fallThrough_kept _)) posted) (.refl s)

theorem State.expireAction_kept (s : State) (tram : Nat) : s.Kept (s.expireAction tram) := by
  unfold State.expireAction
  split
  · exact .ite ((s.updateCall_kept _ _).trans (State.evaluateCalls_kept _)) (.refl s)
  · exact .refl s

theorem State.expireRecovery_kept (s : State) : s.Kept s.expireRecovery := .ite {} (.refl s)

theorem State.expireCall_kept (s : State) (tram : Nat) : s.Kept (s.expireCall tram) := by
  unfold State.expireCall
  split
  · exact .ite ((s.post_kept _ _).trans (State.removeCall_kept _ _)) (.refl s)
  · exact .refl s

theorem State.expireStepGreen_kept (s : State) : s.Kept s.expireStepGreen :=
  .ite (.trans {} (State.judgeStep_kept _)) (.refl s)

theorem State.expireStretch_sameScan (s : State) (ch : ChanId) : s.SameScan (s.expireStretch ch) :=
  .ite (.trans {} (State.judgeDemand_kept _).sameScan) (.refl s)

theorem State.sampleLamps_kept (s : State) (levels : BitVec 72) : s.Kept (s.sampleLamps levels) :=
  (State.Kept.foldl _ (fun t o => t.prove_kept o _) outIds s).trans (State.monitorConflict_kept _ levels)

/-! ### The events of the link (R182, R184) -/

theorem State.abandonFrame_sameScan (s : State) (p : Port) : s.SameScan (s.abandonFrame p) := .ite {} (.refl s)
theorem State.beginTransmission_sameScan (s : State) (p : Port) : s.SameScan (s.beginTransmission p) :=
  .ite {} (.refl s)
theorem State.endTransmission_sameScan (s : State) (p : Port) : s.SameScan (s.endTransmission p) := .ite {} (.refl s)
theorem State.takeUnknown_sameScan (s : State) (p : Port) (kind : Byte) : s.SameScan (s.takeUnknown p kind) :=
  .ite (.refl s) (.ite {} {})

end Sys2Proof.Machine
end

section
/-! SUPPORT. One channel measurement record on its own: what its class, its state and its baseline have to do with its bank
and its enabled field, and that measuring, sampling and restarting it keep that (R135, R136, R140 to R149). -/

namespace Sys2Proof.Machine

/-- A baseline period count in band for a cycle count (R148). -/
abbrev InBand (nc b : Nat) : Prop := b * 12000 ≤ nc * 40000000 ∧ nc * 40000000 ≤ b * 150000

/-- A channel is VACANT or OCCUPIED: it detects (R135). -/
abbrev Channel.Detects (c : Channel) : Prop := c.state = .vacant ∨ c.state = .occupied

/-- A channel record that fits its bank record and its enabled field: what `ChannelsFit` and `BaselinesInBand` say of one
channel (R135, R136, R148). -/
structure Channel.Fits (c : Channel) (bank : BankConfig) (enabled : Bool) : Prop where
  fault : c.fault.isSome = true ↔ c.state = .fault
  disabled : c.state = .disabled ↔ enabled = false
  inBand : bank.mode = .loop ∧ c.Detects → ∃ b, c.baseline = some b ∧ InBand bank.nc b
  bare : ¬(bank.mode = .loop ∧ c.Detects) → c.baseline = none

/-! ### In band -/

/-- Tests 1 and 2 of R140 are the two sides of the band. -/
theorem inBand_of_classifyBand {nc p : Nat} {count : Option Nat} (h : classifyBand nc count = .inBand p) :
    InBand nc p := by
  cases count with
  | none => simp [classifyBand] at h
  | some q =>
    simp only [classifyBand] at h
    split at h
    · cases h
    · split at h
      · cases h
      · cases h
        omega

/-- A measurement that is no fault candidate is in band for its visit's cycle count (R140). -/
theorem inBand_of_classify {c : Channel} {nc p : Nat} {count : Option Nat} (h : classify c nc count = .inBand p) :
    InBand nc p := by
  unfold classify at h
  split at h
  · cases h
  · next band =>
    split at h
    · cases h
    · cases h
      exact inBand_of_classifyBand band

/-- A tracked baseline lies between the baseline and the measurement (R145). -/
theorem tracked_between (b p : Nat) : min b p ≤ tracked b p ∧ tracked b p ≤ max b p := by
  unfold tracked
  rcases le_total p b with below | above
  · rw [Int.tdiv_eq_ediv_of_nonneg (by omega)]
    omega
  · rw [← neg_sub (p : Int) b, Int.neg_tdiv, Int.tdiv_eq_ediv_of_nonneg (by omega)]
    omega

/-- The band has no gap: what lies between two periods in band is in band. -/
theorem InBand.of_between {nc b p q : Nat} (hb : InBand nc b) (hp : InBand nc p) (low : min b p ≤ q)
    (high : q ≤ max b p) : InBand nc q := by
  obtain ⟨bLow, bHigh⟩ := hb
  obtain ⟨pLow, pHigh⟩ := hp
  constructor
  · rcases le_max_iff.1 high with h | h
    · exact (Nat.mul_le_mul_right _ h).trans bLow
    · exact (Nat.mul_le_mul_right _ h).trans pLow
  · rcases min_le_iff.1 low with h | h
    · exact bHigh.trans (Nat.mul_le_mul_right _ h)
    · exact pHigh.trans (Nat.mul_le_mul_right _ h)

/-- The baseline that a judgement at a VACANT channel leaves is in band, where the old one and the measurement are
(R145, R148). -/
theorem inBand_judgeVacant {nc b p : Nat} (on : Nat) (d : Int) (hb : InBand nc b) (hp : InBand nc p) :
    InBand nc (judgeVacant on b p d).2 := by
  unfold judgeVacant
  split
  · exact hb
  · split
    · exact hb
    · split
      · exact hp
      · exact hb.of_between hp (tracked_between b p).1 (tracked_between b p).2

/-! ### What fits -/

namespace Channel.Fits

variable {c d : Channel} {bank : BankConfig} {enabled : Bool}

/-- One record or another, that both fit. -/
theorem ite {p : Prop} [Decidable p] (h : c.Fits bank enabled) (k : d.Fits bank enabled) :
    (if p then c else d).Fits bank enabled := by
  split <;> assumption

/-- A record with the same state, class and baseline fits as well. -/
theorem of_same (h : c.Fits bank enabled) (state : d.state = c.state := by rfl) (fault : d.fault = c.fault := by rfl)
    (baseline : d.baseline = c.baseline := by rfl) : d.Fits bank enabled := by
  obtain ⟨hf, hd, hi, hb⟩ := h
  have detects : d.Detects ↔ c.Detects := by simp only [Channel.Detects, state]
  exact ⟨by rw [fault, state]; exact hf, by rw [state]; exact hd, by rw [detects, baseline]; exact hi,
    by rw [detects, baseline]; exact hb⟩

/-- A record that goes between VACANT and OCCUPIED and keeps its class and baseline fits as well. -/
theorem of_detects (h : c.Fits bank enabled) (old : c.Detects) (new : d.Detects) (fault : d.fault = c.fault := by rfl)
    (baseline : d.baseline = c.baseline := by rfl) : d.Fits bank enabled := by
  obtain ⟨hf, hd, hi, hb⟩ := h
  refine ⟨?_, ?_, fun ⟨loop, _⟩ => baseline ▸ hi ⟨loop, old⟩, fun other => baseline ▸ hb fun ⟨loop, _⟩ => other ⟨loop, new⟩⟩
  · rw [fault, hf]
    rcases old with o | o <;> rcases new with n | n <;> simp [o, n]
  · rw [← hd]
    rcases old with o | o <;> rcases new with n | n <;> simp [o, n]

/-- A channel fits alike under a bank record of the same mode, and in LOOP of the same cycle count. -/
theorem of_bank {old new : BankConfig} (h : c.Fits old enabled) (mode : old.mode = new.mode)
    (nc : new.mode = .loop → old.nc = new.nc) : c.Fits new enabled where
  fault := h.fault
  disabled := h.disabled
  inBand tuned := nc tuned.1 ▸ h.inBand (mode ▸ tuned)
  bare other := h.bare (mode ▸ other)

/-- A tuned channel of a LOOP bank: no class, and a baseline in band. -/
theorem tuned {b : Nat} (loop : bank.mode = .loop) (state : c.Detects) (fault : c.fault = none)
    (baseline : c.baseline = some b) (band : InBand bank.nc b) : c.Fits bank true where
  fault := by rcases state with h | h <;> simp [fault, h]
  disabled := by rcases state with h | h <;> simp [h]
  inBand _ := ⟨b, baseline, band⟩
  bare other := absurd ⟨loop, state⟩ other

/-- An enabled channel without a baseline that is not tuned. -/
theorem untuned (state : c.state ≠ .disabled) (other : ¬(bank.mode = .loop ∧ c.Detects)) (baseline : c.baseline = none)
    (fault : c.fault.isSome = true ↔ c.state = .fault) : c.Fits bank true where
  fault := fault
  disabled := by simp [state]
  inBand tuned := absurd tuned other
  bare _ := baseline

/-- A DISABLED channel without class and baseline fits any bank. -/
theorem off (state : c.state = .disabled) (baseline : c.baseline = none) (fault : c.fault = none) :
    c.Fits bank false where
  fault := by simp [state, fault]
  disabled := by simp [state]
  inBand := by rintro ⟨-, h | h⟩ <;> simp [state] at h
  bare _ := baseline

/-- A channel that is not enabled is DISABLED, without class and baseline. -/
theorem of_not_enabled (h : c.Fits bank false) (other : BankConfig) : c.Fits other false := by
  have state : c.state = .disabled := h.disabled.2 rfl
  refine .off state (h.bare ?_) ?_
  · rintro ⟨-, h | h⟩ <;> simp [state] at h
  · simpa [state] using h.fault

/-- An enabled channel is in a state other than DISABLED. -/
theorem state_ne_disabled (h : c.Fits bank true) : c.state ≠ .disabled := fun state => by
  simpa using h.disabled.1 state

/-- Only FAULT has a class. -/
theorem fault_eq_none (h : c.Fits bank enabled) (state : c.state ≠ .fault) : c.fault = none := by
  simpa [state] using h.fault

/-- A channel of a CONTACT bank has no baseline. -/
theorem bare_of_contact (h : c.Fits bank enabled) (contact : bank.mode = .contact) : c.baseline = none :=
  h.bare (by simp [contact])

/-- A restart in the start state of the bank's mode (R136). -/
theorem cleared (c : Channel) (bank : BankConfig) : (c.cleared bank.mode.startState).Fits bank true := by
  cases mode : bank.mode <;> exact .untuned (by simp [BankMode.startState, Channel.cleared])
    (by simp [BankMode.startState, Channel.cleared, mode]) rfl (by simp [BankMode.startState, Channel.cleared])

/-! ### Judging a measurement (R141 to R147) -/

/-- A candidate moves a channel between VACANT and OCCUPIED at most, and leaves class and baseline (R146). -/
theorem confirmed (h : c.Fits bank enabled) (cand : Option Candidate) (k : Nat) :
    (c.confirmed cand k).Fits bank enabled := by
  unfold Channel.confirmed
  split
  · next state =>
    split
    · exact h.of_detects (.inl state) (.inr rfl)
    · exact h.of_same
  · next state =>
    split
    · exact h.of_detects (.inr state) (.inl rfl)
    · exact h.of_same
  · exact h.of_same

/-- A third fault candidate takes the baseline with the state (R141). -/
theorem faultCandidate (h : c.Fits bank true) (f : FaultClass) : (c.faultCandidate f).Fits bank true :=
  .ite (.untuned (by simp) (by simp) rfl (by simp)) h.of_same

/-- A channel in FAULT stays bare or is retuned with a measurement in band (R142). -/
theorem recover (h : c.Fits bank true) (loop : bank.mode = .loop) {m : Measured}
    (band : ∀ p, m = .inBand p → InBand bank.nc p) : (c.recover m).Fits bank true := by
  cases m with
  | candidate f => exact h.of_same
  | inBand p =>
    simp only [Channel.recover]
    split
    · exact .tuned loop (.inl rfl) rfl rfl (band p rfl)
    · exact h.of_same

/-- A tuned channel judged by its shift from its baseline (R145, R146). -/
theorem detect {b p : Nat} (h : c.Fits bank true) (loop : bank.mode = .loop) (old : c.Detects)
    (baseline : c.baseline = some b) (hb : InBand bank.nc b) (hp : InBand bank.nc p) (k : Nat) :
    (c.detect b p k).Fits bank true := by
  have bare : c.fault = none := h.fault_eq_none (by rcases old with s | s <;> simp [s])
  have band := inBand_judgeVacant c.sensitivity (shift b p) hb hp
  simp only [Channel.detect]
  split
  · next state => 
    generalize judgeVacant c.sensitivity b p (shift b p) = judged at band
    exact (tuned (c := { c with lastD := shift b p, faultRun := none, baseline := some judged.2 })
      loop (.inl state) bare rfl band).confirmed judged.1 k
  · next state => 
    exact (tuned (c := { c with lastD := shift b p, faultRun := none })
      loop (.inr state) bare baseline hb).confirmed _ k
  all_goals exact h

/-- An in-band measurement at a tuned channel is absorbed at the presence limit, else judged (R145, R147). -/
theorem absorb_or_detect {p : Nat} (h : c.Fits bank true) (loop : bank.mode = .loop) (old : c.Detects)
    (hp : InBand bank.nc p) (k : Nat) :
    (if c.overstayed then c.absorb p else c.detect (c.baseline.getD p) p k).Fits bank true := by
  obtain ⟨b, baseline, hb⟩ := h.inBand ⟨loop, old⟩
  have bare : c.fault = none := h.fault_eq_none (by rcases old with s | s <;> simp [s])
  split
  · exact .tuned loop (.inl rfl) bare rfl hp
  · rw [baseline]
    exact h.detect loop old baseline hb hp k

/-- A measurement in a LOOP bank, with that bank's cycle count (R140). -/
theorem measured (h : c.Fits bank true) (loop : bank.mode = .loop) (k : Nat) (count : Option Nat) :
    (c.measured bank.nc k count).Fits bank true := by
  have band : ∀ p, classify c bank.nc count = .inBand p → InBand bank.nc p := fun p => inBand_of_classify
  unfold Channel.measured
  generalize classify c bank.nc count = m at band
  cases state : c.state with
  | disabled => exact absurd state h.state_ne_disabled
  | fault => exact h.recover loop band
  | untuned =>
    cases m with
    | candidate f => exact h.faultCandidate f
    | inBand p => exact .tuned loop (.inl rfl) (h.fault_eq_none (by simp [state])) rfl (band p rfl)
  | vacant =>
    cases m with
    | candidate f => exact h.faultCandidate f
    | inBand p => exact h.absorb_or_detect loop (.inl state) (band p rfl) k
  | occupied =>
    cases m with
    | candidate f => exact h.faultCandidate f
    | inBand p => exact h.absorb_or_detect loop (.inr state) (band p rfl) k

/-! ### Contact samples (R149) -/

/-- The presence limit of a contact channel. -/
theorem stick (h : c.Fits bank true) (contact : bank.mode = .contact) : c.stick.Fits bank true :=
  .untuned (by simp [Channel.stick]) (by simp [contact]) (h.bare_of_contact contact) (by simp [Channel.stick])

theorem stuckSample (h : c.Fits bank true) (contact : bank.mode = .contact) (closed : Bool) (k : Nat) :
    (c.stuckSample closed k).Fits bank true := by
  unfold Channel.stuckSample
  split
  · exact h.of_same
  · split
    · exact .untuned (by simp) (by simp [contact]) (h.bare_of_contact contact) (by simp)
    · exact h.of_same

theorem sampled (h : c.Fits bank true) (contact : bank.mode = .contact) (closed : Bool) (k : Nat) :
    (c.sampled closed k).Fits bank true := by
  unfold Channel.sampled
  cases c.state with
  | vacant | occupied => exact h.confirmed _ _
  | fault => exact h.stuckSample contact closed k
  | disabled | untuned => exact h

end Channel.Fits

end Sys2Proof.Machine
end

section
/-! PROOF. The baselines stay in band (R148): what the Loop Scanner's own events and the writes of detectors and banks do to
channels and visits, every command by the blocks it reaches, and the obligation. -/

namespace Sys2Proof.Machine

/-! ### The law, channel by channel and bank by bank -/

/-- A channel fits its bank record and its enabled field (R135, R136, R148). -/
abbrev State.ChanFits (s : State) (ch : ChanId) : Prop := s.chans[ch].Fits (s.bank (bankOf ch)) (s.chanEnabled ch)

/-- The visit in flight at a bank fits the bank and its channel (R137 to R139). -/
abbrev State.VisitFits (s : State) (b : BankId) : Prop :=
  ∀ v, s.engines[b] = some v →
    bankOf v.channel = b ∧ (s.bank b).mode = .loop ∧ v.nc = (s.bank b).nc ∧ s.chanEnabled v.channel = true

/-- Every channel fits, and every visit: what the obligation says that a step keeps. -/
structure State.ScanFits (s : State) : Prop where
  chans : ∀ ch, s.ChanFits ch
  visits : ∀ b, s.VisitFits b

/-- A baseline in band, as the law writes it. -/
theorem any_inBand_iff (nc : Nat) (baseline : Option Nat) :
    baseline.any (fun b => decide (b * 12000 ≤ nc * 40000000 ∧ nc * 40000000 ≤ b * 150000)) = true ↔
      ∃ b, baseline = some b ∧ InBand nc b := by
  simp only [Option.any_eq_true, decide_eq_true_eq]

/-- The law of the baselines with what carries it is the fit of every channel and every visit. -/
theorem State.scanFits_iff (s : State) : s.ScanFits ↔ s.ChannelsFit ∧ s.VisitsFit ∧ s.BaselinesInBand := by
  simp only [State.ChannelsFit, State.BaselinesInBand, any_inBand_iff]
  constructor
  · rintro ⟨chans, visits⟩
    exact ⟨fun ch => ⟨(chans ch).fault, (chans ch).disabled⟩, visits, fun ch => ⟨(chans ch).inBand, (chans ch).bare⟩⟩
  · rintro ⟨chans, visits, baselines⟩
    exact ⟨fun ch => ⟨(chans ch).1, (chans ch).2, (baselines ch).1, (baselines ch).2⟩, visits⟩

/-- A channel fits where its record fits the same banks and assignments of another state. -/
theorem State.SameVisits.chanFits {s t : State} (h : s.SameVisits t) {ch : ChanId}
    (own : t.chans[ch].Fits (s.bank (bankOf ch)) (s.chanEnabled ch)) : t.ChanFits ch := by
  rwa [State.ChanFits, h.bank, h.chanEnabled]

theorem State.SameVisits.visitFits {s t : State} (h : s.SameVisits t) {b : BankId} (fits : s.VisitFits b) :
    t.VisitFits b := by
  simp only [State.VisitFits, h.bank, h.chanEnabled, h.engines]
  exact fits

/-- What the Loop Scanner does not tell apart fits alike. -/
theorem State.SameScan.scanFits {s t : State} (h : s.SameScan t) (fits : s.ScanFits) : t.ScanFits where
  chans ch := h.visits.chanFits (by rw [h.chans]; exact fits.chans ch)
  visits b := h.visits.visitFits (fits.visits b)

/-! ### A channel record replaced -/

theorem State.enterOccupied_sameScan (s : State) (ch : ChanId) : s.SameScan (s.enterOccupied ch) := by
  simp only [State.enterOccupied]
  exact .ite (.trans {} (State.activity_kept _).sameScan) {}

/-- Beyond the record itself, the report of a channel's change touches nothing that the Loop Scanner reads (R150). -/
theorem State.setChannel_sameScan (s : State) (ch : ChanId) (c : Channel) (restarted : Bool) :
    ({ s with chans := s.chans.set ch c } : State).SameScan (s.setChannel ch c restarted) := by
  simp only [State.setChannel]
  have judged (t : State) : t.SameScan t.judgeDemand.refreshOutputs :=
    (t.judgeDemand_kept.trans (State.refreshOutputs_kept _)).sameScan
  exact .ite {} (.trans (.ite (.trans {} (State.enterOccupied_sameScan _ ch)) {}) (judged _))

theorem State.setChannel_sameVisits (s : State) (ch : ChanId) (c : Channel) (restarted : Bool) :
    s.SameVisits (s.setChannel ch c restarted) :=
  .trans {} (s.setChannel_sameScan ch c restarted).visits

/-- A channel reads back the record it was given, and every other channel keeps its own. -/
theorem State.setChannel_getElem (s : State) (ch i : ChanId) (c : Channel) (restarted : Bool) :
    (s.setChannel ch c restarted).chans[i] = if ch = i then c else s.chans[i] := by
  rw [(s.setChannel_sameScan ch c restarted).chans]
  simp [Vector.getElem_set, Fin.ext_iff]

/-- A channel given a record that fits: it fits, and every other channel that did. -/
theorem State.chanFits_setChannel {s : State} {ch i : ChanId} {c : Channel} {restarted : Bool}
    (own : ch = i → c.Fits (s.bank (bankOf ch)) (s.chanEnabled ch)) (others : ch ≠ i → s.ChanFits i) :
    (s.setChannel ch c restarted).ChanFits i := by
  refine (s.setChannel_sameVisits ch c restarted).chanFits ?_
  rw [s.setChannel_getElem]
  split
  · next eq => exact eq ▸ own eq
  · next ne => exact others ne

/-- A record that fits put in the place of a channel's keeps the fit. -/
theorem State.ScanFits.setChannel {s : State} (h : s.ScanFits) {ch : ChanId} {c : Channel} (restarted : Bool)
    (own : c.Fits (s.bank (bankOf ch)) (s.chanEnabled ch)) : (s.setChannel ch c restarted).ScanFits where
  chans i := State.chanFits_setChannel (fun _ => own) fun _ => h.chans i
  visits b := (s.setChannel_sameVisits ch c restarted).visitFits (h.visits b)

/-! ### Visits -/

/-- The channels of a bank are those whose bank it is. -/
theorem mem_bankChannels {b : BankId} {ch : ChanId} : ch ∈ bankChannels b ↔ bankOf ch = b := by
  simp only [bankChannels, bankOf, List.mem_map, List.mem_finRange, true_and, Fin.ext_iff]
  constructor
  · rintro ⟨i, eq⟩
    omega
  · intro eq
    exact ⟨⟨ch.val % 8, by omega⟩, by simp only; omega⟩

/-- The next visit goes to an enabled channel of its LOOP bank with that bank's cycle count (R137). -/
theorem State.nextVisit_fits {s : State} {b : BankId} {after : Option ChanId} {v : Visit}
    (next : s.nextVisit b after = some v) :
    bankOf v.channel = b ∧ (s.bank b).mode = .loop ∧ v.nc = (s.bank b).nc ∧ s.chanEnabled v.channel = true := by
  unfold State.nextVisit at next
  split at next
  · cases next
  · next loop =>
    obtain ⟨ch, head, rfl⟩ := Option.map_eq_some_iff.1 next
    have enabled : ch ∈ (bankChannels b).filter s.chanEnabled := by
      rcases List.mem_append.1 (List.mem_of_head? head) with above | any
      · cases after with
        | none => cases above
        | some prev => exact List.mem_of_mem_filter above
      · exact any
    obtain ⟨mem, on⟩ := List.mem_filter.1 enabled
    exact ⟨mem_bankChannels.1 mem, loop, rfl, on⟩

/-- A visit started at a bank fits, and those of the other banks stay (R137). -/
theorem State.startVisit_scanFits {s : State} {b : BankId} (after : Option ChanId) (chans : ∀ ch, s.ChanFits ch)
    (others : ∀ i, b ≠ i → s.VisitFits i) : (s.startVisit b after).ScanFits where
  chans := chans
  visits i v flight := by
    by_cases own : b = i
    · subst own
      exact State.nextVisit_fits (s := s) (after := after) (by simpa using flight)
    · refine others i own v ?_
      simpa [Vector.getElem_set, Fin.val_inj, own] using flight

/-! ### Measurements and contact samples (R140, R149) -/

theorem State.postChannel_kept (s : State) (ch : ChanId) (old new : Channel) (limit : Bool) :
    s.Kept (s.postChannel ch old new limit) :=
  .ite (s.post_kept _ _) (.ite (s.post_kept _ _) (.ite (s.post_kept _ _) (.refl s)))

/-- A record that fits put in the place of a channel's, with the events of the change (R150). -/
theorem State.ScanFits.replace {s : State} (h : s.ScanFits) {ch : ChanId} (old : Channel) {new : Channel} (limit : Bool)
    (own : new.Fits (s.bank (bankOf ch)) (s.chanEnabled ch)) :
    s.SameVisits ((s.postChannel ch old new limit).setChannel ch new false) ∧
      ((s.postChannel ch old new limit).setChannel ch new false).ScanFits := by
  have posted := (s.postChannel_kept ch old new limit).sameScan
  refine ⟨posted.visits.trans (State.setChannel_sameVisits _ ch new false), (posted.scanFits h).setChannel false ?_⟩
  rwa [posted.visits.bank, posted.visits.chanEnabled]

/-- A visit in flight goes to an enabled channel of a LOOP bank, so its measurement is judged with the band of that bank
(R138, R140). -/
theorem State.ScanFits.completeVisit {s : State} (h : s.ScanFits) (b : BankId) (count : Option Nat) :
    (s.completeVisit b count).ScanFits := by
  unfold State.completeVisit
  split
  · exact h
  · next v flight =>
    obtain ⟨bank, loop, nc, enabled⟩ := h.visits b v flight
    have old := h.chans v.channel
    rw [State.ChanFits, bank, enabled] at old
    have own : (s.chans[v.channel].measured v.nc (s.bank b).k count).Fits (s.bank (bankOf v.channel))
        (s.chanEnabled v.channel) := by
      rw [bank, enabled, nc]
      exact old.measured loop _ count
    have replaced := (h.replace s.chans[v.channel] (s.chans[v.channel].limited v.nc count) own).2
    exact State.startVisit_scanFits _ replaced.chans fun i _ => replaced.visits i

/-- The presence limit that a contact sample judges first (R149). -/
theorem State.ScanFits.stickOverstayed {s : State} (h : s.ScanFits) {ch : ChanId}
    (contact : (s.bank (bankOf ch)).mode = .contact) (enabled : s.chanEnabled ch = true) :
    let t := if s.chans[ch].overstayed then
      (s.postChannel ch s.chans[ch] s.chans[ch].stick false).setChannel ch s.chans[ch].stick false else s
    s.SameVisits t ∧ t.ScanFits := by
  have old := h.chans ch
  rw [State.ChanFits, enabled] at old
  dsimp only
  split
  · exact h.replace _ _ (by rw [enabled]; exact old.stick contact)
  · exact ⟨.refl s, h⟩

/-- One channel's part of a contact sample: its presence limit, then the sample itself. -/
theorem State.ScanFits.sampleContact {s : State} (h : s.ScanFits) {ch : ChanId}
    (contact : (s.bank (bankOf ch)).mode = .contact) (k : Nat) (closed : Bool) :
    s.SameVisits (s.sampleContact k ch closed) ∧ (s.sampleContact k ch closed).ScanFits := by
  unfold State.sampleContact
  cases enabled : s.chanEnabled ch with
  | false => exact ⟨.refl s, h⟩
  | true =>
    obtain ⟨same, fits⟩ := h.stickOverstayed contact enabled
    simp only [Bool.not_true, Bool.false_eq_true, if_false]
    generalize (if s.chans[ch].overstayed = true then _ else s) = t at same fits
    have mid := fits.chans ch
    rw [State.ChanFits, same.bank, same.chanEnabled, enabled] at mid
    obtain ⟨same', fits'⟩ := fits.replace (ch := ch) t.chans[ch] false
      (by rw [same.bank, same.chanEnabled, enabled]; exact mid.sampled contact closed k)
    exact ⟨same.trans same', fits'⟩

/-- A sample of a CONTACT bank takes its channels one after another. -/
theorem State.ScanFits.sampleBank {s : State} (h : s.ScanFits) (b : BankId) (levels : BitVec 8) :
    (s.sampleBank b levels).ScanFits := by
  unfold State.sampleBank
  split
  · exact h
  · next contact =>
    refine (List.foldlRecOn (bankChannels b) _ (motive := fun t => s.SameVisits t ∧ t.ScanFits) ⟨.refl s, h⟩ ?_).2
    rintro t ⟨same, fits⟩ ch mem
    have sampled := fits.sampleContact (ch := ch) (by rw [mem_bankChannels.1 mem, same.bank, contact]) (s.bank b).k
      (!levels.getLsbD (ch.val % 8))
    exact ⟨same.trans sampled.1, sampled.2⟩

/-! ### A bank record replaced (R134) -/

/-- One channel's part of a bank's restart: enabled, it is cleared to the start state (R134, R136). -/
def State.restartChannel (st : ChanState) (t : State) (ch : ChanId) : State :=
  if t.chanEnabled ch then t.setChannel ch (t.chans[ch].cleared st) true else t

/-- The restart of a bank is that of its channels, and its next visit. -/
theorem State.restartBank_eq (s : State) (b : BankId) :
    s.restartBank b =
      ((bankChannels b).foldl (State.restartChannel (s.bank b).mode.startState) s).startVisit b none := rfl

theorem State.restartChannel_sameVisits (st : ChanState) (t : State) (ch : ChanId) :
    t.SameVisits (t.restartChannel st ch) := by
  unfold State.restartChannel
  split
  · exact t.setChannel_sameVisits _ _ _
  · exact .refl t

/-- The restart of a list of channels in their banks' start state: every channel fits after it that fitted before or that
it clears. -/
theorem State.restartChannels_chanFits (st : ChanState) (l : List ChanId) (s : State)
    (start : ∀ ch ∈ l, (s.bank (bankOf ch)).mode.startState = st)
    (fits : ∀ ch, ch ∈ l ∧ s.chanEnabled ch = true ∨ s.ChanFits ch) :
    s.SameVisits (l.foldl (State.restartChannel st) s) ∧ ∀ ch, (l.foldl (State.restartChannel st) s).ChanFits ch := by
  induction l generalizing s with
  | nil => exact ⟨.refl s, fun ch => (fits ch).resolve_left (by simp)⟩
  | cons a l ih =>
    have same := s.restartChannel_sameVisits st a
    obtain ⟨after, all⟩ := ih (s.restartChannel st a)
      (fun ch mem => by rw [same.bank]; exact start ch (.tail a mem)) fun ch => by
        rw [same.chanEnabled]
        unfold State.restartChannel
        split
        · next enabled =>
          by_cases eq : a = ch
          · refine .inr (State.chanFits_setChannel (fun _ => ?_) fun ne => absurd eq ne)
            rw [enabled, ← start a (.head l)]
            exact .cleared _ _
          · exact (fits ch).imp (fun ⟨mem, on⟩ => ⟨(List.mem_cons.1 mem).resolve_left (Ne.symm eq), on⟩)
              fun own => State.chanFits_setChannel (fun e => absurd e eq) fun _ => own
        · next disabled =>
          refine (fits ch).imp_left fun ⟨mem, on⟩ => ⟨(List.mem_cons.1 mem).resolve_left ?_, on⟩
          rintro rfl
          exact disabled on
    exact ⟨same.trans after, all⟩

/-- A restarted bank fits, where the channels and visits outside it did and those of it that are not enabled (R134). -/
theorem State.restartBank_scanFits {s : State} {b : BankId}
    (chans : ∀ ch, bankOf ch = b ∧ s.chanEnabled ch = true ∨ s.ChanFits ch) (others : ∀ i, b ≠ i → s.VisitFits i) :
    (s.restartBank b).ScanFits := by
  obtain ⟨same, fits⟩ := s.restartChannels_chanFits (s.bank b).mode.startState (bankChannels b)
    (fun ch mem => by rw [mem_bankChannels.1 mem]) fun ch => by rw [mem_bankChannels]; exact chans ch
  rw [State.restartBank_eq]
  exact State.startVisit_scanFits none fits fun i ne => same.visitFits (others i ne)

/-- The state with a bank record replaced, before what the change does to the channels (R134). -/
def State.withBank (s : State) (b : BankId) (new : BankConfig) : State :=
  { s with tables := { s.tables with banks := s.tables.banks.set b new } }

theorem State.bank_withBank (s : State) (b i : BankId) (new : BankConfig) :
    (s.withBank b new).bank i = if b = i then new else s.bank i := by
  simp [State.withBank, State.bank, Vector.getElem_set, Fin.val_inj]

/-- A bank record of the same mode, and in LOOP of the same cycle count, keeps the fit. -/
theorem State.ScanFits.withBank {s : State} (h : s.ScanFits) {b : BankId} {new : BankConfig}
    (mode : (s.bank b).mode = new.mode) (nc : new.mode = .loop → (s.bank b).nc = new.nc) :
    (s.withBank b new).ScanFits where
  chans ch := by
    rw [State.ChanFits, s.bank_withBank]
    split
    · next eq => exact Channel.Fits.of_bank (eq ▸ h.chans ch) mode nc
    · exact h.chans ch
  visits i v flight := by
    obtain ⟨bank, loop, count, enabled⟩ := h.visits i v flight
    rw [s.bank_withBank]
    split
    · next eq =>
      subst eq
      have loop' : new.mode = .loop := mode ▸ loop
      exact ⟨bank, loop', count.trans (nc loop'), enabled⟩
    · exact ⟨bank, loop, count, enabled⟩

/-- The runs that a change of K restarts are none of state, class and baseline (R134). -/
theorem State.ScanFits.restartRuns {s : State} (h : s.ScanFits) (b : BankId) :
    ({ s with chans := Vector.ofFn fun ch : ChanId =>
        if bankOf ch = b then s.chans[ch].restartRuns else s.chans[ch] } : State).ScanFits where
  chans ch := by
    have own : (if bankOf ch = b then s.chans[ch].restartRuns else s.chans[ch]).Fits (s.bank (bankOf ch))
        (s.chanEnabled ch) := .ite (h.chans ch).of_same (h.chans ch)
    exact State.SameVisits.chanFits (s := s) {} (by simpa using own)
  visits i := State.SameVisits.visitFits (s := s) {} (h.visits i)

/-- What a new bank record does, over the state that holds it (R134). -/
theorem State.writeBankRecord_eq (s : State) (b : BankId) (new : BankConfig) :
    s.writeBankRecord b new =
      if (s.bank b).mode ≠ new.mode ∨ ((s.bank b).nc ≠ new.nc ∧ new.mode = .loop) then (s.withBank b new).restartBank b
      else if (s.bank b).k ≠ new.k then
        { s.withBank b new with
          chans := Vector.ofFn fun ch : ChanId =>
            if bankOf ch = b then (s.withBank b new).chans[ch].restartRuns else (s.withBank b new).chans[ch] }
      else s.withBank b new := rfl

/-- WRITE_BANK restarts the bank where its band changes, and else leaves state, class and baseline (R134). -/
theorem State.ScanFits.writeBankRecord {s : State} (h : s.ScanFits) (b : BankId) (new : BankConfig) :
    (s.writeBankRecord b new).ScanFits := by
  rw [State.writeBankRecord_eq]
  split
  · refine State.restartBank_scanFits (fun ch => ?_) fun i ne v flight => ?_
    · cases enabled : (s.withBank b new).chanEnabled ch with
      | true =>
        by_cases own : bankOf ch = b
        · exact .inl ⟨own, rfl⟩
        · refine .inr ?_
          rw [State.ChanFits, s.bank_withBank, if_neg (Ne.symm own)]
          exact h.chans ch
      | false =>
        have old := h.chans ch
        rw [State.ChanFits, show s.chanEnabled ch = false from enabled] at old
        rw [State.ChanFits, enabled]
        exact .inr (old.of_not_enabled _)
    · rw [s.bank_withBank, if_neg ne]
      exact h.visits i v flight
  · next same =>
    rw [not_or, not_and', not_not] at same
    have fits : (s.withBank b new).ScanFits := h.withBank same.1 fun loop => not_not.1 (same.2 loop)
    split
    · exact fits.restartRuns b
    · exact fits

/-! ### A detector assignment replaced (R136, R137, R154) -/

/-- A channel whose enabled field has changed restarts or is DISABLED, and its bank's engine goes where R137 says; nothing is
asked of that channel before, nor that a visit to it is one to an enabled channel. -/
theorem State.changeEnabled_scanFits {s : State} {ch : ChanId} (chans : ∀ i, ch ≠ i → s.ChanFits i)
    (visits : ∀ b v, s.engines[b] = some v → bankOf v.channel = b ∧ (s.bank b).mode = .loop ∧ v.nc = (s.bank b).nc ∧
      (v.channel ≠ ch → s.chanEnabled v.channel = true)) : (s.changeEnabled ch).ScanFits := by
  simp only [State.changeEnabled]
  have own : (s.chans[ch].cleared (if s.chanEnabled ch = true then (s.bank (bankOf ch)).mode.startState
      else .disabled)).Fits (s.bank (bankOf ch)) (s.chanEnabled ch) := by
    cases s.chanEnabled ch with
    | true => exact .cleared _ _
    | false => exact .off rfl rfl rfl
  generalize s.chans[ch].cleared _ = c at own
  have same := s.setChannel_sameVisits ch c true
  have fits : ∀ i, (s.setChannel ch c true).ChanFits i := fun i => State.chanFits_setChannel (fun _ => own) (chans i)
  replace visits : ∀ b v, (s.setChannel ch c true).engines[b] = some v → bankOf v.channel = b ∧
      ((s.setChannel ch c true).bank b).mode = .loop ∧ v.nc = ((s.setChannel ch c true).bank b).nc ∧
      (v.channel ≠ ch → (s.setChannel ch c true).chanEnabled v.channel = true) := by
    simpa only [same.bank, same.chanEnabled, same.engines] using visits
  generalize s.setChannel ch c true = t at fits visits
  have elsewhere (i : BankId) (ne : bankOf ch ≠ i) : t.VisitFits i := fun v flight => by
    obtain ⟨bank, loop, nc, enabled⟩ := visits i v flight
    exact ⟨bank, loop, nc, enabled fun eq => ne (eq ▸ bank)⟩
  unfold State.engineAfterWrite
  split
  · exact State.startVisit_scanFits none fits elsewhere
  · next v flight =>
    split
    · exact State.startVisit_scanFits _ fits elsewhere
    · next kept =>
      refine ⟨fits, fun i w flight' => ?_⟩
      obtain ⟨bank, loop, nc, enabled⟩ := visits i w flight'
      refine ⟨bank, loop, nc, ?_⟩
      by_cases own : w.channel = ch
      · subst own bank
        obtain rfl : v = w := by simpa [flight] using flight'
        simpa using kept
      · exact enabled own

/-- The state with a detector assignment and its channel's live fields replaced, before what a change of its enabled field
does (R153). -/
def State.withDetector (s : State) (ch : ChanId) (d : DetectorConfig) (sensitivity presence : Nat) : State :=
  { s with
    tables := { s.tables with detectors := s.tables.detectors.set ch d }
    chans := s.chans.set ch { s.chans[ch] with sensitivity := sensitivity, presence := presence } }

/-- What a new detector assignment does, over the state that holds it (R153, R154). -/
theorem State.storeDetector_eq (s : State) (ch : ChanId) (d : DetectorConfig) (sensitivity presence : Nat) :
    s.storeDetector ch d sensitivity presence =
      (if s.chanEnabled ch = d.enabled then s.withDetector ch d sensitivity presence
        else (s.withDetector ch d sensitivity presence).changeEnabled ch).judgeDemand := rfl

section

variable (s : State) (ch : ChanId) (d : DetectorConfig) (sensitivity presence : Nat)

theorem State.withDetector_bank (b : BankId) : (s.withDetector ch d sensitivity presence).bank b = s.bank b := rfl

theorem State.withDetector_engines : (s.withDetector ch d sensitivity presence).engines = s.engines := rfl

theorem State.withDetector_chanEnabled (i : ChanId) :
    (s.withDetector ch d sensitivity presence).chanEnabled i = if ch = i then d.enabled else s.chanEnabled i := by
  simp only [State.withDetector, State.chanEnabled, Fin.getElem_fin, Vector.getElem_set, Fin.val_inj]
  split <;> rfl

theorem State.withDetector_getElem (i : ChanId) :
    (s.withDetector ch d sensitivity presence).chans[i] =
      if ch = i then { s.chans[ch] with sensitivity := sensitivity, presence := presence } else s.chans[i] := by
  simp only [State.withDetector, Fin.getElem_fin, Vector.getElem_set, Fin.val_inj]

end

/-- A channel fits as before where the assignment replaced is another's, or the same in its enabled field (R153). -/
theorem State.ScanFits.withDetector_chanFits {s : State} (h : s.ScanFits) {ch i : ChanId} {d : DetectorConfig}
    (sensitivity presence : Nat) (same : ch = i → s.chanEnabled ch = d.enabled) :
    (s.withDetector ch d sensitivity presence).ChanFits i := by
  rw [State.ChanFits, State.withDetector_bank, State.withDetector_chanEnabled, State.withDetector_getElem]
  split
  · next eq =>
    subst eq
    rw [← same rfl]
    exact (h.chans ch).of_same
  · exact h.chans i

/-- WRITE_DETECTOR changes the state, class and baseline of a channel only with its enabled field (R153, R154). -/
theorem State.ScanFits.storeDetector {s : State} (h : s.ScanFits) (ch : ChanId) (d : DetectorConfig)
    (sensitivity presence : Nat) : (s.storeDetector ch d sensitivity presence).ScanFits := by
  rw [State.storeDetector_eq]
  refine (State.judgeDemand_kept _).sameScan.scanFits ?_
  split
  · next same =>
    refine ⟨fun i => h.withDetector_chanFits _ _ fun _ => same, fun b v flight => ?_⟩
    obtain ⟨own, loop, nc, on⟩ := h.visits b v flight
    refine ⟨own, loop, nc, ?_⟩
    rw [State.withDetector_chanEnabled]
    split
    · next eq => rw [← same, eq, on]
    · exact on
  · refine State.changeEnabled_scanFits (fun i ne => h.withDetector_chanFits _ _ fun eq => absurd eq ne)
      fun b v flight => ?_
    obtain ⟨own, loop, nc, on⟩ := h.visits b v flight
    refine ⟨own, loop, nc, fun ne => ?_⟩
    rwa [State.withDetector_chanEnabled, if_neg (Ne.symm ne)]

/-! ### Requests (R184, R186) -/

/-- A reply that touches nothing the Loop Scanner reads keeps the fit. -/
theorem State.SpareReply.scanFits {s : State} {r : Reply} (h : s.SpareReply r) (fits : s.ScanFits) : r.state.ScanFits :=
  h.sameScan.scanFits fits

theorem State.ScanFits.answerWriteDetector {s : State} (h : s.ScanFits) (w : DetectorWrite) :
    (s.answerWriteDetector w).state.ScanFits := by
  unfold State.answerWriteDetector
  split
  · split
    · exact h
    · exact h.storeDetector _ _ _ _
  · exact h

theorem State.ScanFits.answerWriteBank {s : State} (h : s.ScanFits) (w : BankWrite) :
    (s.answerWriteBank w).state.ScanFits := by
  unfold State.answerWriteBank
  split
  · exact h
  · split
    · exact h.writeBankRecord _ _
    · exact h

/-- A request keeps the fit where its owning block's answer does. -/
theorem State.ScanFits.takeRequest {s : State} (h : s.ScanFits) {p : Port} {k : RequestKind} {lengthFits : Bool}
    {owner : State → Reply} (answer : ∀ t : State, t.ScanFits → (owner t).state.ScanFits) :
    (s.takeRequest p k lengthFits owner).ScanFits := by
  have held : (s.holdSlot p).ScanFits := State.SameScan.scanFits {} h
  have responded (r : Reply) (fits : r.state.ScanFits) : (r.respond p k.code).ScanFits := State.SameScan.scanFits {} fits
  unfold State.takeRequest
  split
  · exact h
  · split
    · exact (s.post_kept _ _).sameScan.scanFits h
    · simp only
      split
      · exact responded _ held
      · split
        · exact responded _ held
        · exact (State.settle_kept _).sameScan.scanFits (responded _ (answer _ held))

/-- A request that touches nothing the Loop Scanner reads keeps the fit. -/
theorem State.ScanFits.takeSpare {s : State} (h : s.ScanFits) {p : Port} {k : RequestKind} {lengthFits : Bool}
    {owner : State → Reply} (answer : ∀ t : State, t.SpareReply (owner t)) :
    (s.takeRequest p k lengthFits owner).ScanFits :=
  h.takeRequest fun t => (answer t).scanFits

/-- A frame's request keeps the fit, whatever its kind and payload (11.2). -/
theorem State.ScanFits.serve {s : State} (h : s.ScanFits) (p : Port) (k : RequestKind) (bs : List Byte) :
    (s.serve p k bs).state.ScanFits := by
  cases k with
  | switchOn => exact (s.answerSwitchOn_spare p).scanFits h
  | switchFlash => exact (s.answerSwitchFlash_spare p).scanFits h
  | switchOff => exact s.answerSwitchOff_spare.scanFits h
  | faultReset => exact s.answerFaultReset_spare.scanFits h
  | restart => exact s.answerRestart_spare.scanFits h
  | stageDemand => exact (s.answerStageDemand_spare p _).scanFits h
  | refresh => exact (s.answerRefresh_spare p).scanFits h
  | selectPlan => exact (s.answerSelectPlan_spare p _).scanFits h
  | localReclaim => exact s.answerLocalReclaim_spare.scanFits h
  | takeControl => exact s.answerTakeControl_spare.scanFits h
  | releaseControl => exact s.answerReleaseControl_spare.scanFits h
  | writeGroup => exact (s.answerWriteGroup_spare _).scanFits h
  | writeConflictRow => exact (s.answerWriteConflictRow_spare _ _).scanFits h
  | writeStage => exact (s.answerWriteStage_spare _ _ _).scanFits h
  | writeJunction => exact (s.answerWriteJunction_spare _).scanFits h
  | writeOutput => exact (s.answerWriteOutput_spare _).scanFits h
  | writeDetector => exact h.answerWriteDetector _
  | writeBank => exact h.answerWriteBank _
  | writePlan => exact (s.answerWritePlan_spare _).scanFits h
  | readTable => exact (s.answerReadTable_spare _ _).scanFits h
  | forceOutput => exact (s.answerForceOutput_spare _ _).scanFits h
  | readCounts => exact (s.answerReadCounts_spare p _).scanFits h
  | readStatus | readDetectors | readCalls | readEvents => exact h
  | clearEvents => exact (s.answerClearEvents_spare p _).scanFits h
  | setEventMask => exact (s.answerSetEventMask_spare p _).scanFits h
  | callCheckin => exact (s.answerCallCheckin_spare _).scanFits h
  | callCheckout | callCancel => exact (s.answerWithdraw_spare _).scanFits h

/-- A character at a receiver moves the receiver alone, posts an event, or completes a frame (R182, R183, R186). -/
theorem State.ScanFits.receiveByte {s : State} (h : s.ScanFits) (p : Port) (b : Byte) (stopHigh : Bool) :
    (s.receiveByte p b stopHigh).ScanFits := by
  unfold State.receiveByte
  split
  · obtain ⟨r, what⟩ := (s.ports.get p).receive b stopHigh
    have set : (s.setPort p r).ScanFits := State.SameScan.scanFits {} h
    cases what with
    | nothing => exact set
    | abandoned | badCrc => exact (State.post_kept _ _ _).sameScan.scanFits set
    | complete body =>
      cases body with
      | nil => exact set
      | cons kind payload =>
        simp only [State.afterByte, State.takeFrame]
        split
        · exact (State.takeUnknown_sameScan _ p kind).scanFits set
        · exact set.takeRequest fun t fits => fits.serve p _ payload
  · exact h

/-! ### Every command -/

/-- What the settling of a moment finds fitting, it leaves so. -/
theorem State.ScanFits.settle {s : State} (h : s.ScanFits) : s.settle.ScanFits :=
  s.settle_kept.sameScan.scanFits h

/-- An event that keeps what settling keeps, and the settling of its moment. -/
theorem State.Kept.settle_scanFits {s t : State} (event : s.Kept t) (h : s.ScanFits) : t.settle.ScanFits :=
  (event.sameScan.scanFits h).settle

/-- What an event does at the bank that a number names. -/
theorem State.ScanFits.atBank {s : State} (h : s.ScanFits) (bank : Nat) {f : BankId → State}
    (event : ∀ b, (f b).ScanFits) : (s.atBank bank f).ScanFits := by
  unfold State.atBank
  split
  · exact event _
  · exact h

/-- After a hardware reset no channel is enabled and no visit is in flight (R135, R137). -/
theorem State.afterReset_scanFits (straps : Straps) : (State.afterReset straps).ScanFits where
  chans ch := by
    have record : (State.afterReset straps).chans[ch] = Channel.reset := by simp [State.afterReset]
    have enabled : (State.afterReset straps).chanEnabled ch = false := by
      simp [State.afterReset, State.chanEnabled, Tables.reset, DetectorConfig.reset]
    rw [State.ChanFits, record, enabled]
    exact .off rfl rfl rfl
  visits b v flight := by simp [State.afterReset] at flight

/-- A span of time moves no state, class or baseline (R135). -/
theorem State.ScanFits.passTime {s : State} (h : s.ScanFits) (span : Nat) : (s.passTime span).ScanFits where
  chans ch := by
    have record : (s.passTime span).chans[ch] = s.chans[ch].later span := by simp [State.passTime]
    exact State.SameVisits.chanFits (s := s) {} (record ▸ (h.chans ch).of_same)
  visits := h.visits

/-- Every command answers a next state, and keeps the fit. -/
theorem exec_scanFits (i : Instr) {s : State} (h : s.ScanFits) : ∃ t, exec i s = .next t ∧ t.ScanFits := by
  cases i with
  | hardwareReset speed cen junction =>
    exact ⟨_, rfl, State.SameScan.scanFits {}
      (State.afterReset_scanFits { speed := Fin.ofNat 4 speed, cen := cen, junction := Fin.ofNat 16 junction })⟩
  | byteReceived p b stopHigh => exact ⟨_, rfl, h.receiveByte p _ stopHigh⟩
  | frameGapTimeout p => exact ⟨_, rfl, (s.abandonFrame_sameScan p).scanFits h⟩
  | responseSent p => exact ⟨_, rfl, (s.endTransmission_sameScan p).scanFits h⟩
  | transmissionBegins p => exact ⟨_, rfl, (s.beginTransmission_sameScan p).scanFits h⟩
  | unknownKind p kind => exact ⟨_, rfl, (s.takeUnknown_sameScan p _).scanFits h⟩
  | switchOn p => exact ⟨_, rfl, h.takeSpare fun t => t.answerSwitchOn_spare p⟩
  | switchFlash p => exact ⟨_, rfl, h.takeSpare fun t => t.answerSwitchFlash_spare p⟩
  | switchOff p => exact ⟨_, rfl, h.takeSpare fun t => t.answerSwitchOff_spare⟩
  | faultReset p => exact ⟨_, rfl, h.takeSpare fun t => t.answerFaultReset_spare⟩
  | restart p => exact ⟨_, rfl, h.takeSpare fun t => t.answerRestart_spare⟩
  | stageDemand p stage => exact ⟨_, rfl, h.takeSpare fun t => t.answerStageDemand_spare p stage⟩
  | refresh p => exact ⟨_, rfl, h.takeSpare fun t => t.answerRefresh_spare p⟩
  | selectPlan p plan => exact ⟨_, rfl, h.takeSpare fun t => t.answerSelectPlan_spare p plan⟩
  | localReclaim p => exact ⟨_, rfl, h.takeSpare fun t => t.answerLocalReclaim_spare⟩
  | takeControl p => exact ⟨_, rfl, h.takeSpare fun t => t.answerTakeControl_spare⟩
  | releaseControl p => exact ⟨_, rfl, h.takeSpare fun t => t.answerReleaseControl_spare⟩
  | writeGroup p w => exact ⟨_, rfl, h.takeSpare fun t => t.answerWriteGroup_spare w⟩
  | writeConflictRow p group row => exact ⟨_, rfl, h.takeSpare fun t => t.answerWriteConflictRow_spare group row⟩
  | writeStage p stage mark set => exact ⟨_, rfl, h.takeSpare fun t => t.answerWriteStage_spare stage mark set⟩
  | writeJunction p w => exact ⟨_, rfl, h.takeSpare fun t => t.answerWriteJunction_spare w⟩
  | writeOutput p w => exact ⟨_, rfl, h.takeSpare fun t => t.answerWriteOutput_spare w⟩
  | writeDetector p w => exact ⟨_, rfl, h.takeRequest fun _ fits => fits.answerWriteDetector w⟩
  | writeBank p w => exact ⟨_, rfl, h.takeRequest fun _ fits => fits.answerWriteBank w⟩
  | writePlan p w => exact ⟨_, rfl, h.takeSpare fun t => t.answerWritePlan_spare w⟩
  | readTable p table index => exact ⟨_, rfl, h.takeSpare fun t => t.answerReadTable_spare table index⟩
  | forceOutput p channel force => exact ⟨_, rfl, h.takeSpare fun t => t.answerForceOutput_spare channel force⟩
  | readCounts p clear => exact ⟨_, rfl, h.takeSpare fun t => t.answerReadCounts_spare p clear⟩
  | readStatus p | readDetectors p | readCalls p | readEvents p => exact ⟨_, rfl, h.takeSpare fun _ => {}⟩
  | clearEvents p set => exact ⟨_, rfl, h.takeSpare fun t => t.answerClearEvents_spare p set⟩
  | setEventMask p set => exact ⟨_, rfl, h.takeSpare fun t => t.answerSetEventMask_spare p set⟩
  | callCheckin p w => exact ⟨_, rfl, h.takeSpare fun t => t.answerCallCheckin_spare w⟩
  | callCheckout p tram | callCancel p tram => exact ⟨_, rfl, h.takeSpare fun t => t.answerWithdraw_spare tram⟩
  | startTimerExpiry group => exact ⟨_, rfl, (s.atGroup_kept group s.expireStart_kept).settle_scanFits h⟩
  | prepareTimerExpiry group => exact ⟨_, rfl, (s.atGroup_kept group s.expirePrepare_kept).settle_scanFits h⟩
  | minGoExpiry group => exact ⟨_, rfl, (s.atGroup_kept group s.expireMinGo_kept).settle_scanFits h⟩
  | holdEndReached group => exact ⟨_, rfl, (s.atGroup_kept group s.reachHoldEnd_kept).settle_scanFits h⟩
  | clearTimerExpiry group => exact ⟨_, rfl, (s.atGroup_kept group s.expireClear_kept).settle_scanFits h⟩
  | minStopExpiry group => exact ⟨_, rfl, (s.atGroup_kept group s.expireMinStop_kept).settle_scanFits h⟩
  | maxGoReached group => exact ⟨_, rfl, (s.atGroup_kept group s.reachMaxGo_kept).settle_scanFits h⟩
  | startupRedExpiry => exact ⟨_, rfl, s.expireStartupRed_kept.settle_scanFits h⟩
  | closingRedExpiry => exact ⟨_, rfl, s.expireClosingRed_kept.settle_scanFits h⟩
  | lapseLocal => exact ⟨_, rfl, s.lapseLocal_kept.settle_scanFits h⟩
  | lapseCentral => exact ⟨_, rfl, s.lapseCentral_kept.settle_scanFits h⟩
  | actionTimerExpiry tram => exact ⟨_, rfl, (s.expireAction_kept tram).settle_scanFits h⟩
  | serviceEndReached tram => exact ⟨_, rfl, (s.takeServiceEnd_kept tram).settle_scanFits h⟩
  | recoveryExpiry => exact ⟨_, rfl, s.expireRecovery_kept.settle_scanFits h⟩
  | callTimeout tram => exact ⟨_, rfl, (s.expireCall_kept tram).settle_scanFits h⟩
  | stepGreenTimerExpiry => exact ⟨_, rfl, s.expireStepGreen_kept.settle_scanFits h⟩
  | restDelayReached => exact ⟨_, rfl, s.judgeRest_kept.settle_scanFits h⟩
  | loopVisitComplete bank count => exact ⟨_, rfl, (h.atBank bank fun b => h.completeVisit b count).settle⟩
  | contactSample bank levels => exact ⟨_, rfl, (h.atBank bank fun b => h.sampleBank b levels).settle⟩
  | stretchTimerExpiry channel =>
    refine ⟨_, rfl, State.ScanFits.settle ?_⟩
    split
    · exact (s.expireStretch_sameScan _).scanFits h
    · exact h
  | lampSample levels => exact ⟨_, rfl, (s.sampleLamps_kept levels).settle_scanFits h⟩
  | flasherPhaseChange => exact ⟨_, rfl, State.SameScan.scanFits {} h⟩
  | decisecondElapsedRise => exact ⟨_, rfl, State.SameScan.scanFits {} (h.passTime _)⟩

/-- Settles O54: a step idles or runs one command, and every command keeps the fit of channels and visits. -/
theorem stepKeepsBaselines : Obligations.StepKeepsBaselines := by
  intro s t law ran
  rw [← State.scanFits_iff] at law ⊢
  unfold step at ran
  split at ran
  · cases ran
    exact law
  · next c rest _ =>
    have waiting : ({ s with pending := rest } : State).ScanFits := State.SameScan.scanFits {} law
    obtain ⟨u, done, fits⟩ := exec_scanFits c waiting
    rw [done] at ran
    cases ran
    exact fits

end Sys2Proof.Machine
end
